-- ==== Sys2Proof/Word.lean ====
section
/-! DEFINITION. The word types of the JIC: event words, bytes, and the per-button and per-channel arrays. -/

namespace Sys2Proof

/-- A 16-bit event or payload word (30_encoding.md R56). -/
abbrev Word := BitVec 16

/-- One byte of the packet text, or of an event stream stored as bytes (R12, R63). -/
abbrev Byte := BitVec 8

/-- One entry per button channel 0..7 (00_scope.md R7, `N_BTN` = 8). -/
abbrev PerButton (α : Type) := Vector α 8

/-- One entry per analog channel, or per output axis, 0..3 (00_scope.md R7, `N_AX` = 4). -/
abbrev PerChannel (α : Type) := Vector α 4

/-- The capacity of `TXBUF` in bytes: the longest packet (10_state.md R36). -/
abbrev TxBytes := Vector Byte 37

end Sys2Proof
end

