-- ==== Sys2Proof/Config.lean ====
section
/-! DEFINITION. What an implementation fixes: the parameters of 00_scope.md R7, the axis remap that the spec leaves open, and the free values. -/

namespace Sys2Proof

/-- The polarity of one output axis, +1 or -1 (00_scope.md R7, `AXIS_MAP`). -/
inductive Sign where
  | plus
  | minus
deriving DecidableEq, Repr, Inhabited

/-- `AXIS_MAP` (R7, R97): output axis k takes its value from channel `src[k]` with sign `sgn[k]`.
The axes are, in frame order, 0 = ly, 1 = lx, 2 = ry, 3 = rx (R14). -/
structure AxisMap where
  src : PerChannel (Fin 4)
  sgn : PerChannel Sign
deriving DecidableEq, Repr, Inhabited

/-- The test instance IDENTITY of 41_axis_scaler.md R97; it is no claim about the hardware. -/
def AxisMap.identity : AxisMap where
  src := #v[0, 1, 2, 3]
  sgn := #v[.plus, .plus, .plus, .plus]

/-- The parameters of 00_scope.md R7, each a field as 93_implementation_defined.md I1 asks. -/
structure Config where
  /-- `N_BTN`: button channels. -/
  nBtn : Nat
  /-- `N_AX`: analog channels and output axes. -/
  nAx : Nat
  /-- `DEB_TICKS`: the debounce window, in ticks. -/
  debTicks : Nat
  /-- `REPOLL_PERIOD`: the anti-stuck re-poll period, in ticks. -/
  repollPeriod : Nat
  /-- `SNAP_PERIOD`: the snapshot-and-trigger period, in ticks. -/
  snapPeriod : Nat
  /-- `CAL_SAMPLES`: calibration readings per channel. -/
  calSamples : Nat
  /-- `SCALE_NUM`: the scaler's numerator. -/
  scaleNum : Nat
  /-- `SCALE_DEN`: the scaler's denominator. -/
  scaleDen : Nat
  /-- `DZ_THRESH`: the dead-zone threshold. -/
  dzThresh : Nat
  /-- `TICK_HZ`: timing only; no rule reads it (R150). -/
  tickHz : Nat
  /-- `RAW_W`: bits of a raw sample. -/
  rawW : Nat
  /-- `OFF_W`: bits of a zero offset. -/
  offW : Nat
  /-- `SCALED_W`: bits of a scaled value. -/
  scaledW : Nat
  /-- `AXIS_MAP`: the axis remap. -/
  axisMap : AxisMap
deriving DecidableEq, Repr

/-- FREE VALUE (log 5): which channel feeds each output axis. R97 gives no table, and R8 asks for a
permutation of the channels, which the type says. -/
opaque Config.openAxisSource : Equiv.Perm (Fin 4)

/-- FREE VALUE (log 5): the sign of each output axis (R97). -/
opaque Config.openAxisSign : Fin 4 → Sign

/-- The hardware's `AXIS_MAP`, a signed permutation that the spec does not give (R97, D16). -/
def Config.openAxisMap : AxisMap where
  src := Vector.ofFn fun k => Config.openAxisSource k
  sgn := Vector.ofFn fun k => Config.openAxisSign k

/-- This hardware's configuration: the value column of 00_scope.md R7. -/
def Config.jic : Config where
  nBtn := 8
  nAx := 4
  debTicks := 15
  repollPeriod := 100
  snapPeriod := 20
  calSamples := 20
  scaleNum := 100
  scaleDen := 2048
  dzThresh := 7
  tickHz := 1000
  rawW := 16
  offW := 16
  scaledW := 16
  axisMap := Config.openAxisMap

/-! The free values. Each is read at a number that no other draw uses (`State.freeCount`, or the
number of a port read), so that nothing relates two draws. -/

/-- FREE VALUE (log 2): `ZERO_OFFSET` after a RESET event (10_state.md R31). -/
opaque Config.freeZeroOffset : Nat → PerChannel (BitVec 16)

/-- FREE VALUE (log 2): `RAW` after a RESET event (R32). -/
opaque Config.freeRaw : Nat → PerChannel (BitVec 16)

/-- FREE VALUE (log 2): `CH_SCALED` after a RESET event (R33). -/
opaque Config.freeChScaled : Nat → PerChannel (BitVec 16)

/-- FREE VALUE (log 2): `FRAME.btn` after a RESET event (R35). -/
opaque Config.freeFrameBtn : Nat → PerButton Bool

/-- FREE VALUE (log 2): `FRAME.ax` after a RESET event (R35). -/
opaque Config.freeFrameAx : Nat → PerChannel (BitVec 16)

/-- FREE VALUE (logs 2 and 4): the bytes of `TXBUF` that hold no packet byte (R36). -/
opaque Config.freeTxBuf : Nat → TxBytes

/-- FREE VALUE (log 3): `CAL_SUM` after calibration ends (R30, R89). -/
opaque Config.freeCalSum : Nat → PerChannel (BitVec 32)

/-- FREE VALUE (log 14): what the transport read port gives outside the packet (R114). -/
opaque Config.freePortByte : Nat → BitVec 6 → Byte

/-- FREE VALUE (log 14): `tx_len` while `tx_busy` = 0 (R72). -/
opaque Config.freePortLen : Nat → BitVec 6

/-- FREE VALUE (log 14): `frame_btn` while `frame_valid` = 0 (R110). -/
opaque Config.freePortBtn : Nat → BitVec 8

/-- FREE VALUE (log 14): `frame_ax0..3` while `frame_valid` = 0 (R110). -/
opaque Config.freePortAx : Nat → PerChannel (BitVec 16)

end Sys2Proof
end

