-- ==== Sys2Proof/Syntax.lean ====
section
/-! DEFINITION. The six input events of the JIC, one constructor per row of the opcode table, and the names of what the decoder rejects. -/

namespace Sys2Proof

/-- The events of 30_encoding.md R55. An operand's type holds exactly the values R64 gives it. -/
inductive Instr where
  /-- EDGE(ch), R73: an edge on button channel `ch`, 0..7. -/
  | edge (ch : Fin 8)
  /-- TICK(P), R74: bit i of `p` is the electrical level of button i's pin. -/
  | tick (p : BitVec 8)
  /-- CONV_DONE(r), R87: one unsigned 16-bit raw sample per analog channel. -/
  | convDone (r0 r1 r2 r3 : BitVec 16)
  /-- TX_DONE, R108. -/
  | txDone
  /-- PLATFORM_FAULT, R127. -/
  | platformFault
  /-- RESET, R137. -/
  | reset
deriving DecidableEq, Repr

/-- Why the decoder reads no event (30_encoding.md R62, R63). -/
inductive DecodeError where
  /-- The word's `code` is reserved: 0x0, or 0x6 to 0xE. -/
  | reserved (w : Word)
  /-- A bit that must be 0 is set, or a CONV_DONE has fewer than four payload words. -/
  | illFormed (w : Word)
  /-- There is no word at this position: the stream has ended. -/
  | endOfStream
  /-- A stream stored as bytes ends in half a word. DESIGN CHOICE (log 13). -/
  | oddByte (b : Byte)
deriving DecidableEq, Repr

end Sys2Proof
end

