-- ==== Sys2Proof/Machine/State.lean ====
section
/-! DEFINITION. The state of the JIC (10_state.md R18), the reasons a step can stop, and the state after reset. -/

namespace Sys2Proof.Machine

/-- `MODE` (10_state.md R20): the calibration phase or the steady state. -/
inductive Mode where
  | cal
  | run
deriving DecidableEq, Repr

/-- `MODE` as the bit R20 gives: CAL is 0 and RUN is 1. -/
def Mode.toBit : Mode → BitVec 1
  | .cal => 0
  | .run => 1

/-- An output pulse (10_state.md R39). -/
inductive Output where
  /-- A request to the ADC to acquire all channels. -/
  | convStart
  /-- A request to the transport to send `TXBUF[0..n-1]`. -/
  | txStart (n : Nat)
deriving DecidableEq, Repr

/-- `FRAME` (10_state.md R35): 8 button bits, 1 = pressed, and 4 signed axis values in the order
ly, lx, ry, rx. -/
@[ext] structure Frame where
  btn : PerButton Bool
  ax : PerChannel (BitVec 16)
deriving DecidableEq, Repr

/-- The state of the JIC: every field of 10_state.md R18, then the model's own fields. -/
@[ext]
structure State where
  /-- `MODE`, R20. -/
  mode : Mode
  /-- `HALTED`, R21. -/
  halted : Bool
  /-- `EDGE_PENDING`, R22. -/
  edgePending : PerButton Bool
  /-- `DEB_REMAIN`, R23, in ticks. -/
  debRemain : PerButton (BitVec 4)
  /-- `STABLE`, R24: true = pressed. -/
  stable : PerButton Bool
  /-- `SNAP_CNT`, R25. -/
  snapCnt : BitVec 5
  /-- `REPOLL_CNT`, R26. -/
  repollCnt : BitVec 7
  /-- `BTN_SNAP`, R27. -/
  btnSnap : PerButton Bool
  /-- `CONV_BUSY`, R28. -/
  convBusy : Bool
  /-- `CAL_COUNT`, R29. -/
  calCount : BitVec 5
  /-- `CAL_SUM`, R30, unsigned. -/
  calSum : PerChannel (BitVec 32)
  /-- `ZERO_OFFSET`, R31, unsigned. -/
  zeroOffset : PerChannel (BitVec 16)
  /-- `RAW`, R32, unsigned. -/
  raw : PerChannel (BitVec 16)
  /-- `CH_SCALED`, R33, two's complement. -/
  chScaled : PerChannel (BitVec 16)
  /-- `FRAME_VALID`, R34. -/
  frameValid : Bool
  /-- `FRAME`, R35. -/
  frame : Frame
  /-- `TXBUF`, R36: byte k is character k of the packet (20_memory.md R43). -/
  txBuf : TxBytes
  /-- `TX_LEN`, R37. -/
  txLen : BitVec 6
  /-- `TX_BUSY`, R38. -/
  txBusy : Bool
  /-- The MODEL's own: the output trace, oldest first (R39 "model only"; log 10). -/
  trace : List Output
  /-- The MODEL's own: the event words presented and not yet consumed (30_encoding.md R63; log 7). -/
  stream : List Word
  /-- The MODEL's own: the position in the run's stream of the next word (R62, R63; log 7). -/
  pos : Nat
  /-- The MODEL's own: how many free values have been drawn (log 12). -/
  freeCount : Nat
deriving DecidableEq, Repr

/-- Faults. "The hardware itself never faults" (60_exceptions.md R118, R129). -/
inductive Fault where
  /-- R129's model-level fault, a read of a field that holds no value. NOTHING RAISES IT: every field
  holds a value here (logs 1 and 6). Unsafe: in a state that no run reaches, the model goes on where
  R129's model would fault. -/
  | noValue (field : String)
deriving DecidableEq, Repr

/-- Refusals: inputs that the model gives no meaning (30_encoding.md R62). -/
inductive Refusal where
  /-- An instruction with no meaning yet, raised by `exec` alone. Safe. No arm raises it. -/
  | notModelled (mnemonic : String)
  /-- A reserved event word and its position in the stream (R62), raised by `step`. Safe: the
  hardware has no such input. -/
  | reserved (w : Word) (pos : Nat)
  /-- An ill-formed event word and its position in the stream (R62), raised by `step`. Safe: the
  hardware has no such input. -/
  | illFormed (w : Word) (pos : Nat)
deriving DecidableEq, Repr

/-- The state RESET leaves (70_reset_and_hazards.md R137), as the machine's first state (R140).
`ZERO_OFFSET`, `RAW`, `CH_SCALED`, `FRAME` and `TXBUF` have no reset value in the spec: the zeros
here are DESIGN CHOICE (log 1), unsafe. The model's own fields: no output yet, no word presented,
position 0, and no free value drawn (DESIGN CHOICE, log 12). -/
def State.reset : State where
  mode := .cal
  halted := false
  edgePending := Vector.replicate 8 false
  debRemain := Vector.replicate 8 0#4
  stable := Vector.replicate 8 false
  snapCnt := 0#5
  repollCnt := 0#7
  btnSnap := Vector.replicate 8 false
  convBusy := false
  calCount := 0#5
  calSum := Vector.replicate 4 0#32
  zeroOffset := Vector.replicate 4 0#16
  raw := Vector.replicate 4 0#16
  chScaled := Vector.replicate 4 0#16
  frameValid := false
  frame := { btn := Vector.replicate 8 false, ax := Vector.replicate 4 0#16 }
  txBuf := Vector.replicate 37 0#8
  txLen := 0#6
  txBusy := false
  trace := []
  stream := []
  pos := 0
  freeCount := 0

end Sys2Proof.Machine
end

