-- ==== Sys2Proof/Machine/Flags.lean ====
section
/-! DEFINITION. The conditions the events test. The JIC has no condition codes (10_state.md R19): these are its status bits and counter wraps, and the "enabled when" column of 60_exceptions.md R119. -/

namespace Sys2Proof.Machine

/-- The counter value after one RUN tick: `(cnt + 1) mod period` (40_debounce.md R77). -/
def nextCount (cnt period : Nat) : Nat := (cnt + 1) % period

/-- A boundary: `SNAP_CNT` = 0 after the counters have advanced (R79). -/
def State.atBoundary (s : State) : Bool := decide (s.snapCnt = 0#5)

/-- A re-poll tick: `REPOLL_CNT` = 0 after the counters have advanced (R78). -/
def State.atRepoll (s : State) : Bool := decide (s.repollCnt = 0#7)

/-- The last calibration reading has been accumulated: `CAL_COUNT == CAL_SAMPLES` (R88). -/
def State.calComplete (c : Config) (s : State) : Bool := decide (s.calCount.toNat = c.calSamples)

/-- A TICK is taken: RUN and not halted (R119, R83, R128). -/
def State.tickEnabled (s : State) : Bool := decide (s.mode = .run) && !s.halted

/-- A CONV_DONE feeds the calibration: CAL and not halted (R119, R120). -/
def State.calEnabled (s : State) : Bool := decide (s.mode = .cal) && !s.halted

/-- A CONV_DONE is consumed as a conversion: RUN, `CONV_BUSY` = 1 and not halted (R119, R91). -/
def State.convEnabled (s : State) : Bool := decide (s.mode = .run) && s.convBusy && !s.halted

end Sys2Proof.Machine
end

