-- ==== Sys2Proof/Machine/Operands.lean ====
section
/-! DEFINITION. The operand forms of the events: pin levels and raw samples (30_encoding.md R64, 00_scope.md R13). -/

namespace Sys2Proof.Machine

/-- The electrical level of button `i`'s pin in the operand `P` of a TICK: 1 = high (R59, R64). -/
def pinLevel (p : BitVec 8) (i : Fin 8) : Bool := p.getLsbD i

/-- The logical state a pin level stands for: `pressed = not level` (R13, active low). -/
def pressed (p : BitVec 8) (i : Fin 8) : Bool := !pinLevel p i

/-- The four raw samples of a CONV_DONE, `r[0..3]` (R60, R64). -/
def samples (r0 r1 r2 r3 : BitVec 16) : PerChannel (BitVec 16) := #v[r0, r1, r2, r3]

/-- A raw sample zero-extended to the width of `CAL_SUM` (R88). -/
def sampleToSum (r : BitVec 16) : BitVec 32 := r.setWidth 32

end Sys2Proof.Machine
end

