-- ==== Sys2Proof/Machine/Render.lean ====
section
/-! DEFINITION. Rendering a frame as packet text (42_packet_assembler.md R103 to R105; the codes of 00_scope.md R12). -/

namespace Sys2Proof.Machine

/-- `'B'`. -/
def chB : Byte := 0x42#8
/-- `'A'`. -/
def chA : Byte := 0x41#8
/-- `':'`. -/
def chColon : Byte := 0x3A#8
/-- `','`. -/
def chComma : Byte := 0x2C#8
/-- `'-'`. -/
def chMinus : Byte := 0x2D#8
/-- `'\n'`. -/
def chNewline : Byte := 0x0A#8

/-- The code of a decimal digit 0..9 (R12). -/
def digitChar (d : Nat) : Byte := BitVec.ofNat 8 (0x30 + d)

/-- A button's character (R104): `'1'` pressed, `'0'` released. -/
def btnChar (pressed : Bool) : Byte := if pressed then digitChar 1 else digitChar 0

/-- The decimal digits of `n`, most significant first, with no leading zero; `fuel` bounds their
number. -/
def decDigits : Nat → Nat → List Byte
  | 0, _ => []
  | fuel + 1, n => if n < 10 then [digitChar n] else decDigits fuel (n / 10) ++ [digitChar (n % 10)]

/-- `dec(v)` (R105, R69): canonical signed decimal. Five digits hold every i16. -/
def dec (v : Int) : List Byte :=
  if v = 0 then [digitChar 0]
  else if v < 0 then chMinus :: decDigits 5 v.natAbs
  else decDigits 5 v.natAbs

/-- The eight button characters, button 0 first (R103, R104). -/
def renderButtons (btn : PerButton Bool) : List Byte :=
  [btnChar btn[0], btnChar btn[1], btnChar btn[2], btnChar btn[3],
   btnChar btn[4], btnChar btn[5], btnChar btn[6], btnChar btn[7]]

/-- The four numbers with commas between them, in the order ly, lx, ry, rx (R103, R67). -/
def renderAxes (ax : PerChannel (BitVec 16)) : List Byte :=
  dec ax[0].toInt ++ [chComma] ++ dec ax[1].toInt ++ [chComma] ++
  dec ax[2].toInt ++ [chComma] ++ dec ax[3].toInt

/-- `render(F)` (R103): the packet bytes of a frame. -/
def render (f : Frame) : List Byte :=
  [chB, chColon] ++ renderButtons f.btn ++ [chComma, chA, chColon] ++ renderAxes f.ax ++ [chNewline]

end Sys2Proof.Machine
end

