-- ==== Sys2Proof/Machine/Scaler.lean ====
section
/-! DEFINITION. The exact arithmetic of the scaler, the dead zone, the axis remap and the calibration mean (41_axis_scaler.md R89 to R101). -/

namespace Sys2Proof.Machine

/-- `trunc_div`: integer division rounded toward zero (00_scope.md R11, R94). -/
def truncDiv (a b : Int) : Int := a.tdiv b

/-- `floor_div` of unsigned numbers (00_scope.md R11, R89). -/
def floorDiv (a b : Nat) : Nat := a / b

/-- Offset subtraction (R93): exact, from the two unsigned values; it never wraps. -/
def offsetDelta (raw offset : BitVec 16) : Int := (raw.toNat : Int) - (offset.toNat : Int)

/-- The fixed-point scale (R94): `trunc_div(d * SCALE_NUM, SCALE_DEN)`. -/
def scaleDelta (c : Config) (d : Int) : Int := truncDiv (d * c.scaleNum) c.scaleDen

/-- The dead-zone comparator (R96): 0 where `abs(s) < DZ_THRESH`. -/
def deadZone (c : Config) (v : Int) : Int := if v.natAbs < c.dzThresh then 0 else v

/-- `sgn_k * v` (R97). -/
def applySign : Sign → Int → Int
  | .plus, v => v
  | .minus, v => -v

/-- The scaled, dead-zoned value of one channel, as an integer (R92). It is never clamped (R100). -/
def scaledValue (c : Config) (raw offset : BitVec 16) : Int :=
  deadZone c (scaleDelta c (offsetDelta raw offset))

/-- The axis vector of R92: `ax[k] = sgn_k * CH_SCALED[src_k]`, each stored as i16. -/
def axisVector (c : Config) (scaled : PerChannel (BitVec 16)) : PerChannel (BitVec 16) :=
  Vector.ofFn fun k : Fin 4 =>
    BitVec.ofInt 16 (applySign c.axisMap.sgn[k] scaled[c.axisMap.src[k]].toInt)

/-- The zero offset of one channel from its sum (R89, R90). -/
def offsetOfSum (c : Config) (sum : BitVec 32) : BitVec 16 :=
  BitVec.ofNat 16 (floorDiv sum.toNat c.calSamples)

end Sys2Proof.Machine
end

