-- ==== Sys2Proof/Machine/Ops.lean ====
section
/-! DEFINITION. The named operations over the state, one per step of an event's pseudocode. The JIC has no memory (20_memory.md R42) and no exception entry or return (60_exceptions.md R118, R123, R124), so there is no operation for either. -/

namespace Sys2Proof.Machine

/-- `emit` (00_scope.md R11, 10_state.md R39): append a pulse to the output trace. -/
def State.emit (o : Output) (s : State) : State := { s with trace := s.trace ++ [o] }

/-- Set the edge latch of one channel (40_debounce.md R73). -/
def latchEdge (ch : Fin 8) (s : State) : State :=
  { s with edgePending := s.edgePending.set ch true }

/-- `DEB_REMAIN[i]` after step 2a of a tick: a pending latch arms the window whatever the count was
(R75). -/
def armWindow (c : Config) (pending : Bool) (remain : BitVec 4) : BitVec 4 :=
  if pending then BitVec.ofNat 4 c.debTicks else remain

/-- `DEB_REMAIN[i]` and `STABLE[i]` after step 2b of a tick, from the armed count: count down, and
resolve to the pin when the count reaches 0 (R76). -/
def countDown (remain : BitVec 4) (stable level : Bool) : BitVec 4 × Bool :=
  if remain = 0#4 then (remain, stable)
  else (remain - 1#4, if remain - 1#4 = 0#4 then level else stable)

/-- Step 2 of a tick for one channel (R75, R76): a channel armed in the tick is counted down in it.
The answer is `DEB_REMAIN[i]` and `STABLE[i]`; `level` is `not P[i]`. -/
def debounceChannel (c : Config) (pending : Bool) (remain : BitVec 4) (stable level : Bool) :
    BitVec 4 × Bool :=
  countDown (armWindow c pending remain) stable level

/-- Step 2 of a tick for every channel (R75, R76, R82): all latches are consumed. -/
def debounceStep (c : Config) (p : BitVec 8) (s : State) : State :=
  { s with
    edgePending := Vector.replicate 8 false
    debRemain := Vector.ofFn fun i : Fin 8 =>
      (debounceChannel c s.edgePending[i] s.debRemain[i] s.stable[i] (pressed p i)).1
    stable := Vector.ofFn fun i : Fin 8 =>
      (debounceChannel c s.edgePending[i] s.debRemain[i] s.stable[i] (pressed p i)).2 }

/-- The tick counters advance, each modulo its own period (R77, R26, and vector T8 of
95_test_vectors.md). R74's Example contradicts them: it has `REPOLL_CNT` wrap to 0 with `SNAP_CNT`,
from 19. DEDUCED (log 18): the Example's second tick is read as a slip. -/
def advanceCounters (c : Config) (s : State) : State :=
  { s with
    snapCnt := BitVec.ofNat 5 (nextCount s.snapCnt.toNat c.snapPeriod)
    repollCnt := BitVec.ofNat 7 (nextCount s.repollCnt.toNat c.repollPeriod) }

/-- `STABLE[i]` after the re-poll of one channel (R78): a channel that is not mid-debounce and
disagrees with its pin takes the pin's state. -/
def repollChannel (remain : BitVec 4) (stable level : Bool) : Bool :=
  if remain = 0#4 ∧ stable ≠ level then level else stable

/-- Step 3 of a tick: the anti-stuck re-poll (R78). -/
def repollStep (p : BitVec 8) (s : State) : State :=
  if s.atRepoll then
    { s with
      stable := Vector.ofFn fun i : Fin 8 =>
        repollChannel s.debRemain[i] s.stable[i] (pressed p i) }
  else s

/-- The boundary of a tick: snapshot and trigger, whatever `CONV_BUSY` held (R79). -/
def boundaryStep (s : State) : State :=
  if s.atBoundary then State.emit .convStart { s with btnSnap := s.stable, convBusy := true }
  else s

/-- The whole of a TICK that is taken (R74), in the order of its pseudocode. -/
def tickStep (c : Config) (p : BitVec 8) (s : State) : State :=
  boundaryStep (repollStep p (advanceCounters c (debounceStep c p s)))

/-- The sums and the count after one calibration reading (41_axis_scaler.md R88). -/
def addReading (r : PerChannel (BitVec 16)) (s : State) : State :=
  { s with
    calSum := Vector.ofFn fun ch : Fin 4 => s.calSum[ch] + sampleToSum r[ch]
    calCount := s.calCount + 1#5 }

/-- `CAL_END` (R89). `CAL_SUM` is left with no value: a FREE VALUE (log 3). -/
def calEnd (c : Config) (s : State) : State :=
  { s with
    zeroOffset := Vector.ofFn fun ch : Fin 4 => offsetOfSum c s.calSum[ch]
    mode := .run
    snapCnt := 0#5
    repollCnt := 0#7
    calSum := Config.freeCalSum s.freeCount
    freeCount := s.freeCount + 1 }

/-- `CAL_ACCUMULATE` (R88): add the reading, and end the calibration on the last one. -/
def calAccumulate (c : Config) (r : PerChannel (BitVec 16)) (s : State) : State :=
  if (addReading r s).calComplete c then calEnd c (addReading r s) else addReading r s

/-- `SCALE` (R92): keep the raw samples and compute the scaled values. -/
def scaleStep (c : Config) (r : PerChannel (BitVec 16)) (s : State) : State :=
  { s with
    raw := r
    chScaled := Vector.ofFn fun ch : Fin 4 =>
      BitVec.ofInt 16 (scaledValue c r[ch] s.zeroOffset[ch]) }

/-- The request has been answered: `CONV_BUSY <- 0` (R87). -/
def consumeRequest (s : State) : State := { s with convBusy := false }

/-- `COMMIT` (42_packet_assembler.md R102): the frame is replaced as one unit. -/
def commit (c : Config) (s : State) : State :=
  { s with
    frame := { btn := s.btnSnap, ax := axisVector c s.chScaled }
    frameValid := true }

/-- `TXBUF` with the bytes `b` written from byte 0 on (R106). The bytes past them are unspecified
(10_state.md R36): they are FREE VALUES (log 4). -/
def packetBuffer (b : List Byte) (free : TxBytes) : TxBytes :=
  Vector.ofFn fun k : Fin 37 => b.getD k free[k]

/-- The hand-off to an idle transport (R106). -/
def sendPacket (s : State) : State :=
  State.emit (.txStart (render s.frame).length)
    { s with
      txBuf := packetBuffer (render s.frame) (Config.freeTxBuf s.freeCount)
      txLen := BitVec.ofNat 6 (render s.frame).length
      txBusy := true
      freeCount := s.freeCount + 1 }

/-- `HANDOFF` (R106, R107): to a busy transport it writes and emits nothing, so the frame is
dropped. -/
def handoff (s : State) : State := if s.txBusy then s else sendPacket s

/-- The whole of a steady-state CONV_DONE that is consumed (R87). -/
def conversionStep (c : Config) (r : PerChannel (BitVec 16)) (s : State) : State :=
  handoff (commit c (consumeRequest (scaleStep c r s)))

/-- `TX_BUSY <- 0` (R108). -/
def releaseBuffer (s : State) : State := { s with txBusy := false }

/-- `HALTED <- 1` (60_exceptions.md R127). -/
def halt (s : State) : State := { s with halted := true }

/-- RESET's writes (70_reset_and_hazards.md R137). A field that R137 leaves with "no value" takes a
FREE VALUE (log 2). The output trace and the event stream belong to the run, not to the hardware,
and stay (log 10). -/
def resetFields (s : State) : State :=
  { s with
    mode := .cal
    halted := false
    edgePending := Vector.replicate 8 false
    debRemain := Vector.replicate 8 0#4
    stable := Vector.replicate 8 false
    btnSnap := Vector.replicate 8 false
    snapCnt := 0#5
    repollCnt := 0#7
    convBusy := false
    calCount := 0#5
    calSum := Vector.replicate 4 0#32
    zeroOffset := Config.freeZeroOffset s.freeCount
    raw := Config.freeRaw s.freeCount
    chScaled := Config.freeChScaled s.freeCount
    frameValid := false
    frame := { btn := Config.freeFrameBtn s.freeCount, ax := Config.freeFrameAx s.freeCount }
    txBuf := Config.freeTxBuf s.freeCount
    txLen := 0#6
    txBusy := false
    freeCount := s.freeCount + 1 }

end Sys2Proof.Machine
end

