-- ==== Sys2Proof/Machine/Conversion.lean ====
section
/-! DEFINITION. The meaning of CONV_DONE (41_axis_scaler.md R87, 42_packet_assembler.md R102 to R107). -/

namespace Sys2Proof.Machine

/-- CONV_DONE(r), R87: a calibration reading in CAL mode; in RUN mode a conversion if one was
requested, and no effect otherwise (R91); no effect while halted (R128). -/
def execConvDone (r0 r1 r2 r3 : BitVec 16) (s : State) : Host.Outcome State Fault Refusal :=
  if s.calEnabled then .next (calAccumulate Config.jic (samples r0 r1 r2 r3) s)
  else if s.convEnabled then .next (conversionStep Config.jic (samples r0 r1 r2 r3) s)
  else .next s

end Sys2Proof.Machine
end

