-- ==== Sys2Proof/Machine/Debounce.lean ====
section
/-! DEFINITION. The meanings of EDGE and TICK (40_debounce.md). -/

namespace Sys2Proof.Machine

/-- EDGE(ch), R73: latch the edge, in CAL and in RUN alike; no effect while halted (R128). -/
def execEdge (ch : Fin 8) (s : State) : Host.Outcome State Fault Refusal :=
  if s.halted then .next s else .next (latchEdge ch s)

/-- TICK(P), R74: no effect while halted (R128) or in CAL mode (R83). -/
def execTick (p : BitVec 8) (s : State) : Host.Outcome State Fault Refusal :=
  if s.tickEnabled then .next (tickStep Config.jic p s) else .next s

end Sys2Proof.Machine
end

