-- ==== Sys2Proof/Machine/System.lean ====
section
/-! DEFINITION. The meanings of PLATFORM_FAULT (60_exceptions.md R127) and RESET (70_reset_and_hazards.md R137). -/

namespace Sys2Proof.Machine

/-- PLATFORM_FAULT, R127: the terminal error state. A second one has no effect. -/
def execPlatformFault (s : State) : Host.Outcome State Fault Refusal :=
  if s.halted then .next s else .next (halt s)

/-- RESET, R137: it takes effect in every condition, halted or not. -/
def execReset (s : State) : Host.Outcome State Fault Refusal := .next (resetFields s)

end Sys2Proof.Machine
end

