-- ==== Sys2Proof/Machine/Transport.lean ====
section
/-! DEFINITION. The meaning of TX_DONE (42_packet_assembler.md R108). -/

namespace Sys2Proof.Machine

/-- TX_DONE, R108: the transport gives the buffer back; no effect while halted (R128). -/
def execTxDone (s : State) : Host.Outcome State Fault Refusal :=
  if s.halted then .next s else .next (releaseBuffer s)

end Sys2Proof.Machine
end

