-- ==== Sys2Proof/Machine/Dispatch.lean ====
section
/-! DEFINITION. One arm per event: the meaning it has. -/

namespace Sys2Proof.Machine

def exec (i : Instr) (s : State) : Host.Outcome State Fault Refusal :=
  match i with
  | .edge ch => Sys2Proof.Machine.execEdge ch s
  | .tick p => Sys2Proof.Machine.execTick p s
  | .convDone r0 r1 r2 r3 => Sys2Proof.Machine.execConvDone r0 r1 r2 r3 s
  | .txDone => Sys2Proof.Machine.execTxDone s
  | .platformFault => Sys2Proof.Machine.execPlatformFault s
  | .reset => Sys2Proof.Machine.execReset s

end Sys2Proof.Machine
end

