-- ==== Sys2Proof/WellFormed.lean ====
section
/-! DEFINITION. The checks on an instruction (R65's operand ranges) and on a configuration (00_scope.md R8, and the widths of R9). -/

namespace Sys2Proof

/-- The operand ranges of 30_encoding.md R64 and R65. The operands' types hold them already, so
every term of `Instr` passes and no ill-formed term can be written. -/
def Instr.wellFormed : Instr → Bool
  | .edge ch => decide (ch.val < 8)
  | .tick p => decide (p.toNat < 256)
  | .convDone r0 r1 r2 r3 =>
      decide (r0.toNat < 65536 ∧ r1.toNat < 65536 ∧ r2.toNat < 65536 ∧ r3.toNat < 65536)
  | .txDone => true
  | .platformFault => true
  | .reset => true

/-- R8: the source channels form a permutation of 0..3: every channel feeds some axis. The sign is
+1 or -1 by its type. -/
def AxisMap.isPermutation (m : AxisMap) : Bool :=
  decide (∀ ch : Fin 4, ∃ k : Fin 4, m.src[k] = ch)

/-- 00_scope.md R8: the constraints on a configuration. `DZ_THRESH >= 0` holds by its type. -/
def Config.meetsConstraints (c : Config) : Bool :=
  decide (1 ≤ c.debTicks) && decide (1 ≤ c.snapPeriod) && decide (1 ≤ c.repollPeriod) &&
  decide (1 ≤ c.calSamples) && decide (1 ≤ c.scaleDen) && c.axisMap.isPermutation

/-- 00_scope.md R9 and 10_state.md R18: the values fit the widths that State's fields have. -/
def Config.fitsWidths (c : Config) : Bool :=
  decide (c.nBtn = 8) && decide (c.nAx = 4) && decide (c.debTicks ≤ 15) &&
  decide (c.snapPeriod ≤ 32) && decide (c.repollPeriod ≤ 128) && decide (c.calSamples ≤ 31) &&
  decide (c.rawW = 16) && decide (c.offW = 16) && decide (c.scaledW = 16)

/-- A configuration the model of the State can run with. -/
def Config.wellFormed (c : Config) : Bool :=
  c.meetsConstraints && c.fitsWidths

end Sys2Proof
end

