-- ==== Sys2Proof/Decode.lean ====
section
/-! DEFINITION. Decoding event words and byte streams (30_encoding.md R56 to R64), and the encoder written from the same rules. -/

namespace Sys2Proof

/-- The `code` field, bits [15:12] (R56). -/
def codeField (w : Word) : BitVec 4 := w.extractLsb' 12 4

/-- The `opnd` field, bits [11:0] (R56). -/
def opndField (w : Word) : BitVec 12 := w.extractLsb' 0 12

/-- The button channel of an EDGE word, bits [2:0] (R58, R64). -/
def edgeChannel (w : Word) : Fin 8 := (w.extractLsb' 0 3).toFin

/-- The pin levels of a TICK word, bits [7:0], with no reordering (R59, R64). -/
def tickLevels (w : Word) : BitVec 8 := w.extractLsb' 0 8

/-- The words that follow an event word in its record: four for CONV_DONE (`code` 0x3), none
otherwise (R56). -/
def payloadWords (w : Word) : Nat := if codeField w = 0x3#4 then 4 else 0

/-- The decoding procedure R63 at the word `w`, with `rest` the words after it: the event and the
words left over, or the reason there is none. -/
def decodeRecord (w : Word) (rest : List Word) : Except DecodeError (Instr × List Word) :=
  if codeField w = 0xF#4 then
    if opndField w = 0#12 then .ok (.reset, rest) else .error (.illFormed w)
  else if codeField w = 0x1#4 then
    if w.extractLsb' 3 9 = 0#9 then .ok (.edge (edgeChannel w), rest) else .error (.illFormed w)
  else if codeField w = 0x2#4 then
    if w.extractLsb' 8 4 = 0#4 then .ok (.tick (tickLevels w), rest) else .error (.illFormed w)
  else if codeField w = 0x3#4 then
    match rest with
    | r0 :: r1 :: r2 :: r3 :: rest' =>
        if opndField w = 0#12 then .ok (.convDone r0 r1 r2 r3, rest') else .error (.illFormed w)
    | _ => .error (.illFormed w)
  else if codeField w = 0x4#4 then
    if opndField w = 0#12 then .ok (.txDone, rest) else .error (.illFormed w)
  else if codeField w = 0x5#4 then
    if opndField w = 0#12 then .ok (.platformFault, rest) else .error (.illFormed w)
  else .error (.reserved w)

/-- R63 at the head of a stream of words: total on every list. -/
def decode : List Word → Except DecodeError (Instr × List Word)
  | [] => .error .endOfStream
  | w :: rest => decodeRecord w rest

/-- A byte stream as words, most significant byte first (R63). A byte left over has no word. -/
def wordsOfBytes : List Byte → List Word × Option Byte
  | hi :: lo :: rest => ((hi ++ lo) :: (wordsOfBytes rest).1, (wordsOfBytes rest).2)
  | [b] => ([], some b)
  | [] => ([], none)

/-- A word as its two bytes, most significant first (R63). -/
def bytesOfWord (w : Word) : List Byte := [w.extractLsb' 8 8, w.extractLsb' 0 8]

/-- Words as bytes, each most significant byte first (R63). -/
def bytesOfWords : List Word → List Byte
  | [] => []
  | w :: ws => bytesOfWord w ++ bytesOfWords ws

/-- Decoding at the head of a stream stored as bytes: the event and the words left over. It is total
on any bytes; a single byte is rejected by name. DESIGN CHOICE for that byte (log 13): safe. -/
def decodeBytes (bs : List Byte) : Except DecodeError (Instr × List Word) :=
  match wordsOfBytes bs with
  | ([], some b) => .error (.oddByte b)
  | (ws, _) => decode ws

/-- All events of a word stream in order, from position `pos` on, with the reason and position of
the first word that is no event, if any (R62, R63). `fuel` bounds the records read; the length of
the stream is enough. -/
def decodeStream : Nat → Nat → List Word → List Instr × Option (DecodeError × Nat)
  | 0, _, _ => ([], none)
  | fuel + 1, pos, ws =>
    match decode ws with
    | .ok (i, rest) =>
        let tail := decodeStream fuel (pos + (ws.length - rest.length)) rest
        (i :: tail.1, tail.2)
    | .error .endOfStream => ([], none)
    | .error e => ([], some (e, pos))

/-- The words of an event (R57 to R61). -/
def encode : Instr → List Word
  | .edge ch => [BitVec.ofNat 16 (0x1000 + ch.val)]
  | .tick p => [BitVec.ofNat 16 (0x2000 + p.toNat)]
  | .convDone r0 r1 r2 r3 => [0x3000#16, r0, r1, r2, r3]
  | .txDone => [0x4000#16]
  | .platformFault => [0x5000#16]
  | .reset => [0xF000#16]

/-- The words of a sequence of events. -/
def encodeAll : List Instr → List Word
  | [] => []
  | i :: is => encode i ++ encodeAll is

/-- Word k of an event whose bits are numbered as spec/opcode_table.json numbers them: bit 0 is the
least significant bit of the first word, and each later word counts on from the one before. -/
def tableWord (nbits w k : Nat) : Word := BitVec.ofNat 16 ((w % 2 ^ nbits) / 2 ^ (16 * k))

/-- The words of the record that starts with table bits `w`: the event word, and its payload words
where its `code` has payload (R56). Bits above `nbits` are 0. -/
def tableRecord (nbits w : Nat) : List Word :=
  if payloadWords (tableWord nbits w 0) = 4 then
    [tableWord nbits w 0, tableWord nbits w 1, tableWord nbits w 2, tableWord nbits w 3,
      tableWord nbits w 4]
  else [tableWord nbits w 0]

/-- The event that the decoder reads from table bits `w`, laid out in bytes as R63 stores them. -/
def decodeTableWord (nbits w : Nat) : Option Instr :=
  match decodeBytes (bytesOfWords (tableRecord nbits w)) with
  | .ok (i, _) => some i
  | .error _ => none

/-- The patterns of the opcode table: mnemonic, match and mask of each event word (R57 to R61). -/
def opcodeRows : List (String × Word × Word) :=
  [("EDGE", 0x1000#16, 0xFFF8#16), ("TICK", 0x2000#16, 0xFF00#16),
   ("CONV_DONE", 0x3000#16, 0xFFFF#16), ("TX_DONE", 0x4000#16, 0xFFFF#16),
   ("PLATFORM_FAULT", 0x5000#16, 0xFFFF#16), ("RESET", 0xF000#16, 0xFFFF#16)]

/-- A word carries a row's pattern: it equals the match under the mask. -/
def matchesRow (w : Word) (row : String × Word × Word) : Bool := decide (w &&& row.2.2 = row.2.1)

end Sys2Proof
end

