-- ==== Sys2Proof/Machine/Fetch.lean ====
section
/-! DEFINITION. Taking the next event from the stream of event words (30_encoding.md R63), and putting one there. -/

namespace Sys2Proof.Machine

/-- What the head of the event stream gives. -/
inductive Fetched where
  /-- An event, and the state with its words consumed. -/
  | event (i : Instr) (s : State)
  /-- No event is presented. -/
  | idle
  /-- A reserved or ill-formed word. -/
  | rejected (r : Refusal)
deriving DecidableEq, Repr

/-- The state once the words up to `rest` have been consumed. -/
def State.consume (rest : List Word) (s : State) : State :=
  { s with stream := rest, pos := s.pos + (s.stream.length - rest.length) }

/-- The refusal of a word that is no event, naming the word and its position (R62). -/
def refusalOf (pos : Nat) : DecodeError → Option Refusal
  | .reserved w => some (.reserved w pos)
  | .illFormed w => some (.illFormed w pos)
  | .endOfStream => none
  | .oddByte _ => none

/-- Decode the head of the stream (R63). -/
def fetch (s : State) : Fetched :=
  match decode s.stream with
  | .ok (i, rest) => .event i (s.consume rest)
  | .error e =>
    match refusalOf s.pos e with
    | some r => .rejected r
    | none => .idle

/-- The state with a record of table bits put before the words already presented (log 7). -/
def putRecord (s : State) (nbits w : Nat) : State :=
  { s with stream := tableRecord nbits w ++ s.stream }

end Sys2Proof.Machine
end

