-- ==== Sys2Proof/Machine/Step.lean ====
section
/-! DEFINITION. One step of the machine: the next event of the stream is taken whole (20_memory.md R47). -/

namespace Sys2Proof.Machine

/-- Take the next event. With none presented the JIC holds its state (60_exceptions.md R135; log 9).
A word that is no event is refused, and stays at the head of the stream, so that the refusal mark of
R62 is kept for the rest of the run (log 8). -/
def step (s : State) : Host.Outcome State Fault Refusal :=
  match fetch s with
  | .event i s' => exec i s'
  | .idle => .next s
  | .rejected r => .refused r

/-- `s` with the event of table bits `w` presented next (log 7). -/
def State.withFetchWord (s : State) (nbits w : Nat) : State := putRecord s nbits w

end Sys2Proof.Machine
end

