-- ==== Sys2Proof/Machine/Events.lean ====
section
/-! DEFINITION. Sequences of events, and what an event emitted (20_memory.md R47, 42_packet_assembler.md R113). -/

namespace Sys2Proof.Machine

/-- A sequence of events, each from the state the one before it left (R47, 60_exceptions.md R124). -/
def runEvents : List Instr → State → Host.Outcome State Fault Refusal
  | [], s => .next s
  | i :: is, s =>
    match exec i s with
    | .next s' => runEvents is s'
    | .fault r => .fault r
    | .refused r => .refused r

/-- The pulses emitted between two states of one run: what `after`'s trace has beyond `before`'s. -/
def outputsBetween (before after : State) : List Output := after.trace.drop before.trace.length

/-- The number of conversion requests in a list of pulses. -/
def countConvStart : List Output → Nat
  | [] => 0
  | .convStart :: os => countConvStart os + 1
  | .txStart _ :: os => countConvStart os

/-- The number of packets handed to the transport in a list of pulses. -/
def countTxStart : List Output → Nat
  | [] => 0
  | .convStart :: os => countTxStart os
  | .txStart _ :: os => countTxStart os + 1

end Sys2Proof.Machine
end

