-- ==== Sys2Proof/Machine/Ports.lean ====
section
/-! DEFINITION. The ports of 30_encoding.md R72: one cycle's inputs, serialised in the order of 60_exceptions.md R121, and the outputs. -/

namespace Sys2Proof.Machine

/-- The input ports in one clock cycle (R72). -/
structure CycleIn where
  rst : Bool
  edge : BitVec 8
  tick : Bool
  pin : BitVec 8
  convDone : Bool
  raw : PerChannel (BitVec 16)
  txDone : Bool
  platFault : Bool
deriving DecidableEq, Repr

/-- EDGE(i) for each bit set, in the order of the channels (R72, R121). -/
def edgeEvents (e : BitVec 8) : List Instr :=
  ((List.finRange 8).filter fun i : Fin 8 => e.getLsbD i.val).map Instr.edge

/-- The events presented in one cycle, in the fixed order of R121. -/
def serialise (c : CycleIn) : List Instr :=
  (if c.rst then [.reset] else []) ++
  (if c.platFault then [.platformFault] else []) ++
  (if c.txDone then [.txDone] else []) ++
  (if c.convDone then [.convDone c.raw[0] c.raw[1] c.raw[2] c.raw[3]] else []) ++
  (if c.tick then [.tick c.pin] else []) ++
  edgeEvents c.edge

/-- An event's place in the order of R121, the EDGEs by channel. -/
def eventRank : Instr → Nat
  | .reset => 1
  | .platformFault => 2
  | .txDone => 3
  | .convDone _ _ _ _ => 4
  | .tick _ => 5
  | .edge ch => 6 + ch.val

/-- One clock cycle: each of its events is an atomic transition of its own (R121). -/
def cycle (c : CycleIn) (s : State) : Host.Outcome State Fault Refusal := runEvents (serialise c) s

/-- Present a cycle's events to the machine after the words already presented. -/
def State.presentCycle (s : State) (c : CycleIn) : State :=
  { s with stream := s.stream ++ encodeAll (serialise c) }

/-- The output ports (R72), but for the transport's read port. -/
structure PortsOut where
  convStart : Bool
  txStart : Bool
  txLen : BitVec 6
  txBusy : Bool
  frameBtn : BitVec 8
  frameAx : PerChannel (BitVec 16)
  frameValid : Bool
  halted : Bool
deriving DecidableEq, Repr

/-- A button array as port bits: bit i is button i (R72, `frame_btn[7:0]`). -/
def buttonBits (b : PerButton Bool) : BitVec 8 :=
  BitVec.ofBool b[7] ++ BitVec.ofBool b[6] ++ BitVec.ofBool b[5] ++ BitVec.ofBool b[4] ++
  BitVec.ofBool b[3] ++ BitVec.ofBool b[2] ++ BitVec.ofBool b[1] ++ BitVec.ofBool b[0]

/-- Does a list of pulses hold a TxStart? -/
def hasTxStart : List Output → Bool
  | [] => false
  | .txStart _ :: _ => true
  | .convStart :: os => hasTxStart os

/-- The output ports after a cycle that went from `before` to `after`: the pulses it emitted, and
levels driven from the state (R72, R110). A level that R72 or R110 calls not valid is a FREE VALUE
of the port read numbered `draw` (log 14). -/
def portsOut (draw : Nat) (before after : State) : PortsOut where
  convStart := (outputsBetween before after).contains .convStart
  txStart := hasTxStart (outputsBetween before after)
  txLen := if after.txBusy then after.txLen else Config.freePortLen draw
  txBusy := after.txBusy
  frameBtn := if after.frameValid then buttonBits after.frame.btn else Config.freePortBtn draw
  frameAx := if after.frameValid then after.frame.ax else Config.freePortAx draw
  frameValid := after.frameValid
  halted := after.halted

/-- The transport's read port, `tx_rdata` at `tx_raddr` (R72, R114): a byte of the packet while the
transport owns the buffer. Elsewhere no rule promises a byte: a FREE VALUE of the read numbered
`draw` (log 14). A read changes no state (20_memory.md R46). -/
def txRdata (draw : Nat) (addr : BitVec 6) (s : State) : Byte :=
  if s.txBusy ∧ addr.toNat < s.txLen.toNat then s.txBuf[addr.toNat]?.getD (Config.freePortByte draw addr)
  else Config.freePortByte draw addr

end Sys2Proof.Machine
end

