-- ==== Sys2Proof/Machine/Run.lean ====
section
/-! DEFINITION. A run and its observables (70_reset_and_hazards.md R151). -/

namespace Sys2Proof.Machine

/-- The observables of R151: the final state (with the output trace in it), the packets at each
TxStart, and the refusal mark. -/
structure RunResult where
  final : State
  packets : List (List Byte)
  refusal : Option Refusal
  fault : Option Fault
deriving DecidableEq, Repr

/-- The packets handed over between two states: `TXBUF[0..n-1]` at each `TxStart(n)` (R151). -/
def packetsBetween (before after : State) : List (List Byte) :=
  (outputsBetween before after).filterMap fun o =>
    match o with
    | .convStart => none
    | .txStart n => some (after.txBuf.toList.take n)

/-- Run the words presented, at most `fuel` steps: the run ends after its last event, or at a
refused word, whose mark it keeps (R151, R62). -/
def runFrom : Nat → State → RunResult
  | 0, s => { final := s, packets := [], refusal := none, fault := none }
  | fuel + 1, s =>
    if s.stream.isEmpty then { final := s, packets := [], refusal := none, fault := none }
    else
      match step s with
      | .next s' =>
        { runFrom fuel s' with packets := packetsBetween s s' ++ (runFrom fuel s').packets }
      | .refused r => { final := s, packets := [], refusal := some r, fault := none }
      | .fault f => { final := s, packets := [], refusal := none, fault := some f }

/-- The run of a word stream from the state RESET leaves (R140, R151). Each event has a word, so the
stream's length bounds the steps. -/
def runWords (ws : List Word) : RunResult := runFrom ws.length { State.reset with stream := ws }

end Sys2Proof.Machine
end

