-- ==== Sys2Proof/Machine/Script.lean ====
section
/-! DEFINITION. The assembler of event scripts (30_encoding.md R65, R66). Details that R65 leaves open are DESIGN CHOICE (log 15). -/

namespace Sys2Proof.Machine

/-- A statement of an event script (R65), or a pseudo-statement (R66). -/
inductive Statement where
  | reset
  | edge (ch : Fin 8)
  | tick (p : BitVec 8)
  | conv (r0 r1 r2 r3 : BitVec 16)
  | txdone
  | fault
  | ticks (n : Nat) (p : BitVec 8)
  | calibrate (r0 r1 r2 r3 : BitVec 16)
deriving DecidableEq, Repr

/-- The events a statement stands for (R65, R66). -/
def expandStatement : Statement → List Instr
  | .reset => [.reset]
  | .edge ch => [.edge ch]
  | .tick p => [.tick p]
  | .conv r0 r1 r2 r3 => [.convDone r0 r1 r2 r3]
  | .txdone => [.txDone]
  | .fault => [.platformFault]
  | .ticks n p => List.replicate n (.tick p)
  | .calibrate r0 r1 r2 r3 => List.replicate Config.jic.calSamples (.convDone r0 r1 r2 r3)

/-- A space, a tab or a carriage return. -/
def isBlank (c : Char) : Bool := c == ' ' || c == '\t' || c == '\r'

/-- A text without the blanks at its two ends. -/
def trimBlanks (cs : List Char) : List Char :=
  ((cs.dropWhile isBlank).reverse.dropWhile isBlank).reverse

/-- The parts of a text between the separators `sep`. -/
def splitAtChar (sep : Char) : List Char → List (List Char)
  | [] => [[]]
  | c :: cs =>
    if c = sep then [] :: splitAtChar sep cs
    else
      match splitAtChar sep cs with
      | [] => [[c]]
      | f :: fs => (c :: f) :: fs

/-- The value of a digit in base 2, 10 or 16. -/
def charDigit (base : Nat) (c : Char) : Option Nat :=
  let n := c.toNat
  let d :=
    if 48 ≤ n ∧ n ≤ 57 then n - 48
    else if 65 ≤ n ∧ n ≤ 70 then n - 55
    else if 97 ≤ n ∧ n ≤ 102 then n - 87
    else base
  if d < base then some d else none

/-- The value of digits after the value `acc` of those before them. -/
def charsValue (base : Nat) : Nat → List Char → Option Nat
  | acc, [] => some acc
  | acc, c :: cs =>
    match charDigit base c with
    | some d => charsValue base (acc * base + d) cs
    | none => none

/-- A decimal number of at least one digit. R65 is silent on leading zeros: any number of them is
accepted, as in `edge 007`. DESIGN CHOICE (log 15). -/
def decimal (cs : List Char) : Option Nat := if cs.isEmpty then none else charsValue 10 0 cs

/-- A value of the written form `0x` or `0b` with exactly `k` digits of the base (R65). -/
def prefixed (mark : Char) (base k : Nat) : List Char → Option Nat
  | '0' :: m :: cs => if m = mark ∧ cs.length = k then charsValue base 0 cs else none
  | _ => none

/-- `<ch>`: a decimal 0..7 (R65). -/
def channelOperand (cs : List Char) : Option (Fin 8) :=
  match decimal cs with
  | some n => if h : n < 8 then some ⟨n, h⟩ else none
  | none => none

/-- `<P>`: an 8-bit value in hex, or in binary with button 7 leftmost (R65). -/
def levelsOperand (cs : List Char) : Option (BitVec 8) :=
  ((prefixed 'x' 16 2 cs).orElse fun _ => prefixed 'b' 2 8 cs).map (BitVec.ofNat 8)

/-- `<r>`: a decimal 0..65535, or a hex value of four digits (R65). -/
def sampleOperand (cs : List Char) : Option (BitVec 16) :=
  match (prefixed 'x' 16 4 cs).orElse fun _ => decimal cs with
  | some n => if n < 65536 then some (BitVec.ofNat 16 n) else none
  | none => none

/-- `<n>`: a decimal of at least 1 (R66). -/
def countOperand (cs : List Char) : Option Nat :=
  match decimal cs with
  | some n => if 1 ≤ n then some n else none
  | none => none

/-- Four samples (R65, R66). -/
def fourSamples (mk : BitVec 16 → BitVec 16 → BitVec 16 → BitVec 16 → Statement) :
    List (List Char) → Option Statement
  | [f0, f1, f2, f3] =>
    match sampleOperand f0, sampleOperand f1, sampleOperand f2, sampleOperand f3 with
    | some r0, some r1, some r2, some r3 => some (mk r0 r1 r2 r3)
    | _, _, _, _ => none
  | _ => none

/-- A statement from its mnemonic and its operands, which have been split at the commas (R65, R66).
An operand out of range gives none: an assembly error. -/
def readStatement (name : List Char) (ops : List (List Char)) : Option Statement :=
  if name = "reset".toList then (if ops = [[]] then some .reset else none)
  else if name = "txdone".toList then (if ops = [[]] then some .txdone else none)
  else if name = "fault".toList then (if ops = [[]] then some .fault else none)
  else if name = "edge".toList then
    match ops with
    | [f] => (channelOperand f).map .edge
    | _ => none
  else if name = "tick".toList then
    match ops with
    | [f] => (levelsOperand f).map .tick
    | _ => none
  else if name = "conv".toList then fourSamples .conv ops
  else if name = "ticks".toList then
    match ops with
    | [f, g] =>
      match countOperand f, levelsOperand g with
      | some n, some p => some (.ticks n p)
      | _, _ => none
    | _ => none
  else if name = "calibrate".toList then fourSamples .calibrate ops
  else none

/-- The text of a line without its comment and outer blanks (R65). -/
def lineText (line : List Char) : List Char := trimBlanks (line.takeWhile (· != ';'))

/-- The events of one line: none for a line with no statement; an assembly error for a line that is
no statement (R65). -/
def assembleLine (line : List Char) : Option (List Instr) :=
  let text := lineText line
  if text.isEmpty then some []
  else
    (readStatement (text.takeWhile fun c => !isBlank c)
      ((splitAtChar ',' (text.dropWhile fun c => !isBlank c)).map trimBlanks)).map expandStatement

/-- The events of lines numbered from `n`, or the number of the first line refused (R65). -/
def assembleLines : Nat → List (List Char) → Except Nat (List Instr)
  | _, [] => .ok []
  | n, l :: ls =>
    match assembleLine l with
    | none => .error n
    | some is =>
      match assembleLines (n + 1) ls with
      | .ok is' => .ok (is ++ is')
      | .error m => .error m

/-- The events of an event script, or the number of the line that is refused, counted from 1 (R65). -/
def assembleScript (text : List Char) : Except Nat (List Instr) :=
  assembleLines 1 (splitAtChar '\n' text)

end Sys2Proof.Machine
end

