-- ==== Sys2Proof/Machine/Grammar.lean ====
section
/-! DEFINITION. The packet grammar of 30_encoding.md R67 to R71 as a receiver reads it: `parsePacket` answers none for every illegal packet. The JIC itself receives no packet (R71). -/

namespace Sys2Proof.Machine

/-- A `btn` (R67). -/
def btnField (b : Byte) : Option Bool :=
  if b = digitChar 1 then some true else if b = digitChar 0 then some false else none

/-- The value of a digit character (R12). -/
def digitValue (b : Byte) : Option Nat :=
  if 0x30 ≤ b.toNat ∧ b.toNat ≤ 0x39 then some (b.toNat - 0x30) else none

/-- The value of a string of digits, after the value `acc` of those before it. -/
def digitsValue : Nat → List Byte → Option Nat
  | acc, [] => some acc
  | acc, b :: bs =>
    match digitValue b with
    | some d => digitsValue (acc * 10 + d) bs
    | none => none

/-- `nzdigit digit*` (R67). -/
def natField : List Byte → Option Nat
  | [] => none
  | b :: bs => if b = digitChar 0 then none else digitsValue 0 (b :: bs)

/-- An `int` without its range: `'0'`, or `neg? nzdigit digit*` (R67). -/
def signedField : List Byte → Option Int
  | [] => none
  | b :: bs =>
    if b = chMinus then (natField bs).map fun n => -(n : Int)
    else if b = digitChar 0 ∧ bs = [] then some 0
    else (natField (b :: bs)).map fun n => (n : Int)

/-- An `int`, with its value in [-3199, 3199] (R67). -/
def intField (bs : List Byte) : Option Int :=
  match signedField bs with
  | some v => if v.natAbs ≤ 3199 then some v else none
  | none => none

/-- The fields between the commas of a list of bytes. -/
def splitComma : List Byte → List (List Byte)
  | [] => [[]]
  | b :: bs =>
    if b = chComma then [] :: splitComma bs
    else
      match splitComma bs with
      | [] => [[b]]
      | f :: fs => (b :: f) :: fs

/-- The eight button fields (R68). -/
def buttonFields (b0 b1 b2 b3 b4 b5 b6 b7 : Byte) : Option (PerButton Bool) :=
  match btnField b0, btnField b1, btnField b2, btnField b3,
        btnField b4, btnField b5, btnField b6, btnField b7 with
  | some x0, some x1, some x2, some x3, some x4, some x5, some x6, some x7 =>
      some #v[x0, x1, x2, x3, x4, x5, x6, x7]
  | _, _, _, _, _, _, _, _ => none

/-- The four axis fields, each as i16 (R67, R68). -/
def axisFields : List (List Byte) → Option (PerChannel (BitVec 16))
  | [f0, f1, f2, f3] =>
    match intField f0, intField f1, intField f2, intField f3 with
    | some v0, some v1, some v2, some v3 =>
        some #v[BitVec.ofInt 16 v0, BitVec.ofInt 16 v1, BitVec.ofInt 16 v2, BitVec.ofInt 16 v3]
    | _, _, _, _ => none
  | _ => none

/-- The frame a packet carries, or none where the bytes are not a packet (R67, R68, R71). -/
def parsePacket : List Byte → Option Frame
  | p0 :: p1 :: b0 :: b1 :: b2 :: b3 :: b4 :: b5 :: b6 :: b7 :: p10 :: p11 :: p12 :: rest =>
    if p0 = chB ∧ p1 = chColon ∧ p10 = chComma ∧ p11 = chA ∧ p12 = chColon ∧
        rest.getLast? = some chNewline then
      match buttonFields b0 b1 b2 b3 b4 b5 b6 b7, axisFields (splitComma rest.dropLast) with
      | some btn, some ax => some { btn := btn, ax := ax }
      | _, _ => none
    else none
  | _ => none

end Sys2Proof.Machine
end

