-- ==== Sys2Proof/Safety.lean ====
section
/-! DEFINITION. What counts as a good state and a good run: the invariants of 10_state.md R41, packet integrity, and the duties of the collaborators that the guarantees rest on. -/

namespace Sys2Proof.Machine

/-- The invariants of 10_state.md R41 (a) to (d), with the counter ranges of R25 and R26, the bound
that keeps `CAL_SUM` from overflowing (R30) and the range of `CH_SCALED` (R33). R41 (c)'s "every
`ZERO_OFFSET[ch]` holds a value" needs no clause: every field holds one (log 1). -/
structure State.Legal (s : State) : Prop where
  /-- R41 (a). -/
  debRange : ∀ i : Fin 8, s.debRemain[i].toNat ≤ Config.jic.debTicks
  /-- R25. -/
  snapRange : s.snapCnt.toNat < Config.jic.snapPeriod
  /-- R26. -/
  repollRange : s.repollCnt.toNat < Config.jic.repollPeriod
  /-- R26: with the source's values every re-poll tick is also a boundary. -/
  phase : s.repollCnt.toNat % Config.jic.snapPeriod = s.snapCnt.toNat
  /-- R41 (b): the calibration is not complete. -/
  calCount : s.mode = .cal → s.calCount.toNat < Config.jic.calSamples
  /-- R41 (b): nothing is in flight in CAL. -/
  calIdle : s.mode = .cal → s.convBusy = false ∧ s.txBusy = false ∧ s.frameValid = false
  /-- R41 (b): no button has a state or a window in CAL. -/
  calButtons : s.mode = .cal → ∀ i : Fin 8, s.stable[i] = false ∧ s.debRemain[i] = 0#4
  /-- R30: the sums are bounded by the readings taken. -/
  calSums : s.mode = .cal → ∀ ch : Fin 4, s.calSum[ch].toNat ≤ s.calCount.toNat * 65535
  /-- R41 (c). -/
  runCount : s.mode = .run → s.calCount.toNat = Config.jic.calSamples
  /-- R41 (d). -/
  owned : s.txBusy = true → s.frameValid = true ∧ 21 ≤ s.txLen.toNat ∧ s.txLen.toNat ≤ 37
  /-- R33, of the values that a conversion has written. -/
  scaledRange : s.frameValid = true →
    ∀ ch : Fin 4, -3199 ≤ s.chScaled[ch].toInt ∧ s.chScaled[ch].toInt ≤ 3199

/-- While the transport owns the buffer, `TXBUF[0..TX_LEN-1]` is a packet of the grammar (30_encoding.md
R67, R71; 20_memory.md R49). -/
def State.PacketIntact (s : State) : Prop :=
  s.txBusy = true → (parsePacket (s.txBuf.toList.take s.txLen.toNat)).isSome = true

/-- The event is neither PLATFORM_FAULT nor RESET: it can occur in normal operation. -/
def isOperating : Instr → Bool
  | .edge _ => true
  | .tick _ => true
  | .convDone _ _ _ _ => true
  | .txDone => true
  | .platformFault => false
  | .reset => false

/-- The event is a TICK. -/
def isTick : Instr → Bool
  | .edge _ => false
  | .tick _ => true
  | .convDone _ _ _ _ => false
  | .txDone => false
  | .platformFault => false
  | .reset => false

/-- The event is a CONV_DONE. -/
def isConvDone : Instr → Bool
  | .edge _ => false
  | .tick _ => false
  | .convDone _ _ _ _ => true
  | .txDone => false
  | .platformFault => false
  | .reset => false

/-- How many TICKs a sequence of events holds. -/
def tickCount : List Instr → Nat
  | [] => 0
  | i :: is => (if isTick i then 1 else 0) + tickCount is

/-- How many CONV_DONEs a sequence of events holds. -/
def convDoneCount : List Instr → Nat
  | [] => 0
  | i :: is => (if isConvDone i then 1 else 0) + convDoneCount is

/-- The raw sample of channel `ch` that an event carries: 0 for an event with no samples. -/
def sampleOf (ch : Fin 4) : Instr → Nat
  | .edge _ => 0
  | .tick _ => 0
  | .convDone r0 r1 r2 r3 => (samples r0 r1 r2 r3)[ch].toNat
  | .txDone => 0
  | .platformFault => 0
  | .reset => 0

/-- The sum of channel `ch`'s raw samples over a sequence of events. -/
def sampleTotal (ch : Fin 4) : List Instr → Nat
  | [] => 0
  | i :: is => sampleOf ch i + sampleTotal ch is

/-- Every TICK of the sequence samples button `ch`'s pin at the level given. -/
def pinHeldAt (ch : Fin 8) (level : Bool) (is : List Instr) : Prop :=
  ∀ p : BitVec 8, Instr.tick p ∈ is → pinLevel p ch = level

/-- The latency duty of the ADC (70_reset_and_hazards.md R144): no boundary is reached while a
conversion is outstanding. Other events cannot break it. -/
def answersInTime (s : State) : Instr → Bool
  | .edge _ => true
  | .tick _ => !(s.convBusy && decide (nextCount s.snapCnt.toNat Config.jic.snapPeriod = 0))
  | .convDone _ _ _ _ => true
  | .txDone => true
  | .platformFault => true
  | .reset => true

/-- The other duties that an event can break (60_exceptions.md R131): no TICK in CAL (R146), no
CONV_DONE in RUN that was not requested (R147), and TX_DONE only for a buffer that is owned (R145).
The machine checks none of them. -/
def keepsPhase (s : State) : Instr → Bool
  | .edge _ => true
  | .tick _ => decide (s.mode = .run)
  | .convDone _ _ _ _ => decide (s.mode = .cal) || s.convBusy
  | .txDone => s.txBusy
  | .platformFault => true
  | .reset => true

/-- Every event of the sequence keeps the latency duty in the state it meets. -/
def latencyKept : List Instr → State → Bool
  | [], _ => true
  | i :: is, s =>
    answersInTime s i &&
      match exec i s with
      | .next s' => latencyKept is s'
      | .fault _ => false
      | .refused _ => false

end Sys2Proof.Machine
end

