-- ==== Sys2Proof/Certificates/Slice0/Obligations.lean ====
section
/-! DEFINITION. The statements for the provers. Each docstring names the rule of spec/ that the statement formalises. -/

open Sys2Proof Sys2Proof.Machine

/-! ## Encoding and decoding -/

/-- 30_encoding.md R57 to R64: every event, with every operand at every value, is well formed, and
its words decode to it, whatever words follow. -/
def Obligations.EncodedEventsDecodeToThemselves : Prop :=
  ∀ (i : Instr) (rest : List Word),
    i.wellFormed = true ∧ decode (encode i ++ rest) = .ok (i, rest)

/-- R56, R62: no bit is dropped. Words that decode to an event are exactly its encoding, so every
bit an event does not use is 0. -/
def Obligations.DecodedWordsAreTheEncoding : Prop :=
  ∀ (ws rest : List Word) (i : Instr), decode ws = .ok (i, rest) → ws = encode i ++ rest

/-- R57 to R61: words written out from the rules decode to the events they stand for. -/
def Obligations.SpecWordsDecode : Prop :=
  decode [0xF000#16] = .ok (.reset, []) ∧
  decode [0x1002#16] = .ok (.edge 2, []) ∧
  decode [0x20FB#16] = .ok (.tick 0b11111011#8, []) ∧
  decode [0x3000#16, 0x0800#16, 0x0800#16, 0x0800#16, 0x0800#16] =
    .ok (.convDone 2048#16 2048#16 2048#16 2048#16, []) ∧
  decode [0x4000#16] = .ok (.txDone, []) ∧
  decode [0x5000#16] = .ok (.platformFault, [])

/-- R62, and the model's reading of its refusal mark (log 8): step refuses exactly the reserved and
the ill-formed words, naming the word and its position, and the refusal stays for the rest of the
run. -/
def Obligations.BadWordsAreRefusedByNameAndPosition : Prop :=
  ∀ (s : State) (w : Word) (rest : List Word), s.stream = w :: rest →
    (step s = .refused (.reserved w s.pos) ↔
      (codeField w).toNat = 0 ∨ (6 ≤ (codeField w).toNat ∧ (codeField w).toNat ≤ 14)) ∧
    (step s = .refused (.illFormed w s.pos) ↔
      ((codeField w).toNat = 1 ∧ w.toNat % 4096 / 8 ≠ 0) ∨
      ((codeField w).toNat = 2 ∧ w.toNat % 4096 / 256 ≠ 0) ∨
      (((codeField w).toNat ∈ [3, 4, 5, 15]) ∧ w.toNat % 4096 ≠ 0) ∨
      ((codeField w).toNat = 3 ∧ rest.length < 4)) ∧
    (∀ r : Refusal, step s = .refused r →
      (r = .reserved w s.pos ∨ r = .illFormed w s.pos) ∧
      ∀ k : Nat, Host.Core.run Sys2Proof.core (k + 1) s = .refused r)

/-- The opcode table (R57 to R61, R63): a word with four words after it starts an event exactly when
it carries the pattern of a row, and then of one row only. -/
def Obligations.EventWordsAreTheTableRows : Prop :=
  ∀ w p0 p1 p2 p3 : Word,
    ((∃ (i : Instr) (rest : List Word), decode [w, p0, p1, p2, p3] = .ok (i, rest)) ↔
      ∃ row ∈ opcodeRows, matchesRow w row = true) ∧
    (opcodeRows.filter (matchesRow w)).length ≤ 1

/-- R63's last sentence: words are stored as bytes most significant byte first, and read back. -/
def Obligations.ByteStreamsAreMostSignificantFirst : Prop :=
  ∀ ws : List Word,
    wordsOfBytes (bytesOfWords ws) = (ws, none) ∧
    ∀ (k : Nat) (w : Word), ws[k]? = some w →
      (bytesOfWords ws)[2 * k]? = some (BitVec.ofNat 8 (w.toNat / 256)) ∧
      (bytesOfWords ws)[2 * k + 1]? = some (BitVec.ofNat 8 (w.toNat % 256))

/-! ## Stepping -/

/-- A step takes the event that the words at the head of the stream decode to, from the state with
those words consumed (20_memory.md R47, 30_encoding.md R63). -/
def Obligations.StepRunsTheDecodedEvent : Prop :=
  ∀ (s : State) (i : Instr) (rest : List Word), decode s.stream = .ok (i, rest) →
    step s = exec i { s with stream := rest, pos := s.pos + (encode i).length }

/-- The model's choice (log 9, from 60_exceptions.md R135): with no event presented the JIC holds its
state. -/
def Obligations.IdleStepHoldsTheState : Prop :=
  ∀ s : State, s.stream = [] → step s = .next s

/-- 20_memory.md R47: stepping through the words of a sequence of events, with any words after them,
is running the events in order; the words are consumed and nothing else differs. -/
def Obligations.SteppingWordsRefinesRunningEvents : Prop :=
  ∀ (is : List Instr) (s : State) (ws : List Word), s.stream = encodeAll is ++ ws →
    ∃ t : State, runEvents is s = .next t ∧
      Host.Core.run Sys2Proof.core is.length s =
        .next { t with stream := ws, pos := s.pos + (encodeAll is).length }

/-- Every event answers a next state. In the states that a run from RESET reaches this is
60_exceptions.md R118 and R129. In the states that no run reaches it is the model's choice (log 6,
DESIGN CHOICE, unsafe): R129's model would fault there on a read of a field that holds no value. -/
def Obligations.EveryEventCompletes : Prop :=
  ∀ (i : Instr) (s : State), ∃ t : State, exec i s = .next t

/-! ## EDGE and TICK -/

/-- 40_debounce.md R73: an EDGE sets its latch, in CAL and in RUN, and writes nothing else; it has no
effect while halted. -/
def Obligations.EdgeSetsOnlyItsLatch : Prop :=
  ∀ (ch : Fin 8) (s : State),
    (s.halted = true → exec (.edge ch) s = .next s) ∧
    (s.halted = false → ∃ t : State, exec (.edge ch) s = .next t ∧
      t = { s with edgePending := t.edgePending } ∧ t.edgePending[ch] = true ∧
      ∀ j : Fin 8, j ≠ ch → t.edgePending[j] = s.edgePending[j])

/-- R75: a tick that is taken clears every latch, and a latch that was set arms the window: with the
countdown of the same tick (R76), the count is `DEB_TICKS` - 1 whatever it held before. -/
def Obligations.TickConsumesLatchesAndArms : Prop :=
  ∀ (p : BitVec 8) (s : State), s.mode = .run → s.halted = false →
    ∃ t : State, exec (.tick p) s = .next t ∧
      (∀ i : Fin 8, t.edgePending[i] = false) ∧
      (∀ i : Fin 8, s.edgePending[i] = true → t.debRemain[i] = 14#4 ∧ t.stable[i] = s.stable[i]) ∧
      (∀ i : Fin 8, s.edgePending[i] = false → t.debRemain[i].toNat = s.debRemain[i].toNat - 1)

/-- R76: a channel whose count reaches 0 in a tick resolves to the pin, `STABLE[i]` = not `P[i]`; a
channel still counting keeps its stable state. -/
def Obligations.TickResolvesAtZero : Prop :=
  ∀ (p : BitVec 8) (s : State) (i : Fin 8), s.mode = .run → s.halted = false →
    s.edgePending[i] = false →
    ∃ t : State, exec (.tick p) s = .next t ∧
      (s.debRemain[i] = 1#4 → t.debRemain[i] = 0#4 ∧ t.stable[i] = !p.getLsbD i.val) ∧
      (2 ≤ s.debRemain[i].toNat →
        t.debRemain[i] = s.debRemain[i] - 1#4 ∧ t.stable[i] = s.stable[i])

/-- R78: on a re-poll tick a channel with no window running takes the pin's state; with a window
running it is not touched; on any other tick an idle channel keeps its state. -/
def Obligations.RepollForcesIdleChannelsOnly : Prop :=
  ∀ (p : BitVec 8) (s : State), s.mode = .run → s.halted = false →
    ∃ t : State, exec (.tick p) s = .next t ∧
      ∀ i : Fin 8,
        ((s.repollCnt.toNat + 1) % 100 = 0 → t.debRemain[i] = 0#4 →
          t.stable[i] = !p.getLsbD i.val) ∧
        (t.debRemain[i] ≠ 0#4 → t.stable[i] = s.stable[i]) ∧
        ((s.repollCnt.toNat + 1) % 100 ≠ 0 → s.debRemain[i] = 0#4 → s.edgePending[i] = false →
          t.stable[i] = s.stable[i])

/-- R79: a boundary tick copies `STABLE`, as the tick leaves it, into `BTN_SNAP`, sets `CONV_BUSY`
whatever it held and emits `ConvStart`; any other tick writes neither and emits nothing. -/
def Obligations.BoundaryTakesSnapshotAndTriggers : Prop :=
  ∀ (p : BitVec 8) (s : State), s.mode = .run → s.halted = false →
    ∃ t : State, exec (.tick p) s = .next t ∧
      ((s.snapCnt.toNat + 1) % 20 = 0 →
        t.btnSnap = t.stable ∧ t.convBusy = true ∧ t.trace = s.trace ++ [.convStart]) ∧
      ((s.snapCnt.toNat + 1) % 20 ≠ 0 →
        t.btnSnap = s.btnSnap ∧ t.convBusy = s.convBusy ∧ t.trace = s.trace)

/-- R77 over a run: from the entry to RUN (both counters 0) on, after n ticks, whatever other events
come between, `SNAP_CNT` is n mod 20 and `REPOLL_CNT` is n mod 100. So the n-th tick is a boundary
exactly when 20 divides n, and a re-poll tick exactly when 100 does. -/
def Obligations.CountersCountRunTicks : Prop :=
  ∀ (is : List Instr) (s : State), s.mode = .run → s.halted = false →
    s.snapCnt = 0#5 → s.repollCnt = 0#7 → (∀ e ∈ is, isOperating e = true) →
    ∃ t : State, runEvents is s = .next t ∧
      t.snapCnt.toNat = tickCount is % 20 ∧ t.repollCnt.toNat = tickCount is % 100

/-- R79, R112 and 70_reset_and_hazards.md R149 over a run: from the entry to RUN on, the conversions
requested are exactly the boundaries passed, one per 20 ticks. -/
def Obligations.OneConversionRequestPerBoundary : Prop :=
  ∀ (is : List Instr) (s : State), s.mode = .run → s.halted = false → s.snapCnt = 0#5 →
    (∀ e ∈ is, isOperating e = true) →
    ∃ t : State, runEvents is s = .next t ∧
      countConvStart (outputsBetween s t) = tickCount is / 20

/-- R82: channel independence. Two ticks that agree on one channel's latch, count, stable state and
pin, and on the shared re-poll counter, leave that channel in the same state, whatever the other
channels hold. -/
def Obligations.ChannelsAreIndependent : Prop :=
  ∀ (p p' : BitVec 8) (s s' : State) (i : Fin 8),
    s.mode = .run → s.halted = false → s'.mode = .run → s'.halted = false →
    s.edgePending[i] = s'.edgePending[i] → s.debRemain[i] = s'.debRemain[i] →
    s.stable[i] = s'.stable[i] → p.getLsbD i.val = p'.getLsbD i.val → s.repollCnt = s'.repollCnt →
    ∃ t t' : State, exec (.tick p) s = .next t ∧ exec (.tick p') s' = .next t' ∧
      t.edgePending[i] = t'.edgePending[i] ∧ t.debRemain[i] = t'.debRemain[i] ∧
      t.stable[i] = t'.stable[i]

/-- R81, R80 and R84: the debounce window. A latch pending before the first of n ticks, with no
further EDGE on the channel, leaves `DEB_REMAIN[i]` = 15 - n and `STABLE[i]` unwritten for n = 1 to
14 (re-polls included), and the 15th tick resolves to its own pin level, whatever other events come
between. -/
def Obligations.WindowResolvesOnTheFifteenthTick : Prop :=
  ∀ (is : List Instr) (p : BitVec 8) (s : State) (i : Fin 8),
    s.mode = .run → s.halted = false → s.edgePending[i] = true →
    (∀ e ∈ is, isOperating e = true ∧ e ≠ .edge i) →
    1 ≤ tickCount is → tickCount is ≤ 14 →
    ∃ t : State, runEvents is s = .next t ∧
      t.debRemain[i].toNat = 15 - tickCount is ∧ t.stable[i] = s.stable[i] ∧
      (tickCount is = 14 → ∃ u : State, exec (.tick p) t = .next u ∧
        u.debRemain[i] = 0#4 ∧ u.stable[i] = !p.getLsbD i.val)

/-- R85 (a): one clean edge. With the latch set once and the pin held at the new level, `STABLE[i]`
keeps its value for 14 ticks and is the new level's state from the 15th tick on, so it changes at
most once. -/
def Obligations.CleanEdgeFlipsOnce : Prop :=
  ∀ (is : List Instr) (s : State) (i : Fin 8) (level : Bool),
    s.mode = .run → s.halted = false → s.edgePending[i] = true → s.stable[i] = level →
    (∀ e ∈ is, isOperating e = true ∧ e ≠ .edge i) → pinHeldAt i level is →
    ∃ t : State, runEvents is s = .next t ∧
      (tickCount is < 15 → t.stable[i] = s.stable[i]) ∧
      (15 ≤ tickCount is → t.stable[i] = !level)

/-- R85 (b), R80: bounce. Bursts of events that each begin with an EDGE on the channel and hold 1 to
14 ticks leave `STABLE[i]` unwritten, whatever the pin does, and the window still running. -/
def Obligations.BounceNeverFlips : Prop :=
  ∀ (bursts : List (List Instr)) (s : State) (i : Fin 8),
    s.mode = .run → s.halted = false → bursts ≠ [] →
    (∀ b ∈ bursts, (∀ e ∈ b, isOperating e = true ∧ e ≠ .edge i) ∧
      1 ≤ tickCount b ∧ tickCount b ≤ 14) →
    ∃ t : State, runEvents (bursts.flatMap fun b => .edge i :: b) s = .next t ∧
      t.stable[i] = s.stable[i] ∧ t.debRemain[i] ≠ 0#4

/-- R85 (c): a missed edge. With the pin held at a level and no further EDGE on the channel,
`STABLE[i]` agrees with the pin after at most 100 RUN ticks, from any state of the channel. -/
def Obligations.RepollRecoversMissedEdge : Prop :=
  ∀ (is : List Instr) (s : State) (i : Fin 8) (level : Bool),
    s.mode = .run → s.halted = false →
    (∀ e ∈ is, isOperating e = true ∧ e ≠ .edge i) → pinHeldAt i level is → 100 ≤ tickCount is →
    ∃ t : State, runEvents is s = .next t ∧ t.stable[i] = !level

/-- 20_memory.md R49 (c): an edge latched is never lost. It stays pending until the next tick that
is taken, which consumes it and arms the window. -/
def Obligations.LatchedEdgeReachesTheNextTick : Prop :=
  ∀ (is : List Instr) (p : BitVec 8) (s : State) (i : Fin 8),
    s.mode = .run → s.halted = false → s.edgePending[i] = true →
    (∀ e ∈ is, isOperating e = true ∧ isTick e = false) →
    ∃ t u : State, runEvents is s = .next t ∧ t.edgePending[i] = true ∧
      exec (.tick p) t = .next u ∧ u.edgePending[i] = false ∧ u.debRemain[i] = 14#4

/-! ## CONV_DONE: calibration -/

/-- 41_axis_scaler.md R88: a calibration reading before the last adds each channel's sample to its
sum and 1 to the count; it writes nothing else and emits nothing. The sums are below the bound that
keeps them from overflowing (10_state.md R30). -/
def Obligations.CalibrationReadingAccumulates : Prop :=
  ∀ (r0 r1 r2 r3 : BitVec 16) (s : State), s.mode = .cal → s.halted = false →
    s.calCount.toNat < 19 → (∀ ch : Fin 4, s.calSum[ch].toNat ≤ 19 * 65535) →
    ∃ t : State, exec (.convDone r0 r1 r2 r3) s = .next t ∧
      t = { s with calSum := t.calSum, calCount := t.calCount } ∧
      t.calCount.toNat = s.calCount.toNat + 1 ∧
      ∀ ch : Fin 4, t.calSum[ch].toNat = s.calSum[ch].toNat + (samples r0 r1 r2 r3)[ch].toNat

/-- R89: the last calibration reading sets every zero offset to the floor of the sum over 20, enters
RUN and zeroes both tick counters; `CAL_SUM` is left with no value. -/
def Obligations.LastReadingEndsCalibration : Prop :=
  ∀ (r0 r1 r2 r3 : BitVec 16) (s : State), s.mode = .cal → s.halted = false →
    s.calCount.toNat = 19 → (∀ ch : Fin 4, s.calSum[ch].toNat ≤ 19 * 65535) →
    ∃ t : State, exec (.convDone r0 r1 r2 r3) s = .next t ∧
      t = { s with mode := .run, calCount := 20#5, snapCnt := 0#5, repollCnt := 0#7,
                   zeroOffset := t.zeroOffset, calSum := t.calSum, freeCount := t.freeCount } ∧
      ∀ ch : Fin 4, t.zeroOffset[ch].toNat =
        (s.calSum[ch].toNat + (samples r0 r1 r2 r3)[ch].toNat) / 20

/-- R90 over a whole calibration: from a RESET on, through any operating events with 20 CONV_DONEs
among them, the JIC is in RUN and each zero offset is the floor of the mean of the channel's 20
readings. -/
def Obligations.OffsetIsTheFlooredMean : Prop :=
  ∀ (is : List Instr) (s : State), (∀ e ∈ is, isOperating e = true) → convDoneCount is = 20 →
    ∃ t : State, runEvents (.reset :: is) s = .next t ∧ t.mode = .run ∧
      ∀ ch : Fin 4, t.zeroOffset[ch].toNat = sampleTotal ch is / 20

/-! ## CONV_DONE: scaling, commit and hand-off -/

/-- R92 to R96: a conversion that is consumed keeps the raw samples and writes each channel's exact
difference from its offset, times 100 over 2048 rounded toward zero, with the dead zone applied; no
step wraps and nothing is clamped. -/
def Obligations.ConversionScalesExactly : Prop :=
  ∀ (r0 r1 r2 r3 : BitVec 16) (s : State), s.mode = .run → s.halted = false → s.convBusy = true →
    ∃ t : State, exec (.convDone r0 r1 r2 r3) s = .next t ∧ t.raw = samples r0 r1 r2 r3 ∧
      t.convBusy = false ∧
      ∀ ch : Fin 4, ∃ d v : Int,
        d = ((samples r0 r1 r2 r3)[ch].toNat : Int) - (s.zeroOffset[ch].toNat : Int) ∧
        v = (d * 100).tdiv 2048 ∧ t.chScaled[ch].toInt = if v.natAbs < 7 then 0 else v

/-- R94's second form: the scale is the sign of d times (abs(d) * 25) shifted right by 9, for every
difference of two samples. -/
def Obligations.ScaleIsTheShiftForm : Prop :=
  ∀ raw offset : BitVec 16,
    scaleDelta Config.jic (offsetDelta raw offset) =
      (offsetDelta raw offset).sign * (((offsetDelta raw offset).natAbs * 25) >>> 9 : Nat)

/-- R95: for every pair of samples the scaled value lies in [-3199, 3199], before and after the dead
zone and with either sign; for 12-bit samples in [-199, 199]. -/
def Obligations.ScaledRangeIsBounded : Prop :=
  ∀ (raw offset : BitVec 16) (sg : Sign),
    (scaleDelta Config.jic (offsetDelta raw offset)).natAbs ≤ 3199 ∧
    (scaledValue Config.jic raw offset).natAbs ≤ 3199 ∧
    (applySign sg (scaledValue Config.jic raw offset)).natAbs ≤ 3199 ∧
    (raw.toNat ≤ 4095 → offset.toNat ≤ 4095 →
      (scaleDelta Config.jic (offsetDelta raw offset)).natAbs ≤ 199 ∧
      (applySign sg (scaledValue Config.jic raw offset)).natAbs ≤ 199)

/-- R96: the dead zone zeroes exactly the magnitudes below 7, which are the differences of magnitude
at most 143; 144 gives 7. -/
def Obligations.DeadZoneEdgeIsAt144 : Prop :=
  (∀ v : Int, deadZone Config.jic v = if -6 ≤ v ∧ v ≤ 6 then 0 else v) ∧
  (∀ raw offset : BitVec 16,
    (scaledValue Config.jic raw offset = 0 ↔ (offsetDelta raw offset).natAbs ≤ 143) ∧
    (offsetDelta raw offset = 144 → scaledValue Config.jic raw offset = 7) ∧
    (offsetDelta raw offset = -144 → scaledValue Config.jic raw offset = -7))

/-- R97, R98: each axis of the committed frame is its source channel's value under its sign, and
applying the dead zone after the remap, as the source orders it, gives the same axis. -/
def Obligations.AxisOrderOfDeadZoneAndRemapAgree : Prop :=
  ∀ (r0 r1 r2 r3 : BitVec 16) (s : State), s.mode = .run → s.halted = false → s.convBusy = true →
    ∃ t : State, exec (.convDone r0 r1 r2 r3) s = .next t ∧
      ∀ (k ch : Fin 4) (sg : Sign), Config.jic.axisMap.src[k] = ch → Config.jic.axisMap.sgn[k] = sg →
        t.frame.ax[k].toInt = applySign sg t.chScaled[ch].toInt ∧
        t.frame.ax[k].toInt = applySign sg (deadZone Config.jic (scaleDelta Config.jic
          (offsetDelta (samples r0 r1 r2 r3)[ch] s.zeroOffset[ch]))) ∧
        t.frame.ax[k].toInt = deadZone Config.jic (applySign sg (scaleDelta Config.jic
          (offsetDelta (samples r0 r1 r2 r3)[ch] s.zeroOffset[ch])))

/-- 00_scope.md R8: the hardware's configuration meets the constraints, whatever signed permutation
`AXIS_MAP` is. -/
def Obligations.HardwareConfigurationIsAdmissible : Prop :=
  Config.jic.wellFormed = true

/-- 42_packet_assembler.md R102 and the frame of a conversion: a consumed CONV_DONE commits the
boundary's snapshot and the fresh axes together, whether or not the transport is idle, and leaves
the buttons' state, the counters, the mode and the calibration as they were. -/
def Obligations.ConversionCommitsTheFrameWhole : Prop :=
  ∀ (r0 r1 r2 r3 : BitVec 16) (s : State), s.mode = .run → s.halted = false → s.convBusy = true →
    ∃ t : State, exec (.convDone r0 r1 r2 r3) s = .next t ∧
      t.frame = { btn := s.btnSnap, ax := axisVector Config.jic t.chScaled } ∧
      t = { s with raw := t.raw, chScaled := t.chScaled, convBusy := false, frame := t.frame,
                   frameValid := true, txBuf := t.txBuf, txLen := t.txLen, txBusy := true,
                   trace := t.trace, freeCount := t.freeCount }

/-- R106: to an idle transport the frame's packet is written from byte 0 on, with its length, and
`TxStart` of that length is emitted. -/
def Obligations.IdleTransportGetsThePacket : Prop :=
  ∀ (r0 r1 r2 r3 : BitVec 16) (s : State), s.mode = .run → s.halted = false → s.convBusy = true →
    s.txBusy = false →
    ∃ t : State, exec (.convDone r0 r1 r2 r3) s = .next t ∧
      t.txBuf.toList.take (render t.frame).length = render t.frame ∧
      t.txLen.toNat = (render t.frame).length ∧ t.txBusy = true ∧
      t.trace = s.trace ++ [.txStart (render t.frame).length]

/-- R107, 60_exceptions.md R126: to a busy transport nothing is written and nothing is emitted: the
new frame is committed and its packet dropped, and no field records the drop. -/
def Obligations.BusyTransportDropsThePacket : Prop :=
  ∀ (r0 r1 r2 r3 : BitVec 16) (s : State), s.mode = .run → s.halted = false → s.convBusy = true →
    s.txBusy = true →
    ∃ t : State, exec (.convDone r0 r1 r2 r3) s = .next t ∧ t.frame.btn = s.btnSnap ∧
      t.frameValid = true ∧
      t = { s with raw := t.raw, chScaled := t.chScaled, convBusy := false, frame := t.frame,
                   frameValid := true }

/-- 20_memory.md R49 (a) and 42_packet_assembler.md R111: if the ADC answers a boundary's request
before the next boundary, the frame committed pairs the buttons as that boundary left them with the
axes of that one conversion, whatever else happens between. -/
def Obligations.FramePairsSnapshotWithItsConversion : Prop :=
  ∀ (p : BitVec 8) (is : List Instr) (r0 r1 r2 r3 : BitVec 16) (s s1 : State),
    s.mode = .run → s.halted = false → (s.snapCnt.toNat + 1) % 20 = 0 →
    exec (.tick p) s = .next s1 →
    (∀ e ∈ is, isOperating e = true ∧ isConvDone e = false) → latencyKept is s1 = true →
    ∃ s2 t : State, runEvents is s1 = .next s2 ∧ exec (.convDone r0 r1 r2 r3) s2 = .next t ∧
      t.frameValid = true ∧ t.frame.btn = s1.stable ∧
      ∀ k : Fin 4, t.frame.ax[k].toInt = applySign Config.jic.axisMap.sgn[k]
        (scaledValue Config.jic (samples r0 r1 r2 r3)[Config.jic.axisMap.src[k]]
          s.zeroOffset[Config.jic.axisMap.src[k]])

/-! ## The packet -/

/-- 42_packet_assembler.md R103 to R105 and 30_encoding.md R67, R70, R71: for every frame with axes
in range, the packet is one of the grammar, a receiver reads that frame back from it, its length is
21 to 37 bytes, and its only newline is its last byte. -/
def Obligations.RenderedPacketsReadBack : Prop :=
  ∀ f : Frame, (∀ k : Fin 4, f.ax[k].toInt.natAbs ≤ 3199) →
    parsePacket (render f) = some f ∧
    21 ≤ (render f).length ∧ (render f).length ≤ 37 ∧
    (render f).getLast? = some 0x0A#8 ∧ 0x0A#8 ∉ (render f).dropLast

/-- 30_encoding.md R68: the fixed positions. -/
def Obligations.PacketPositionsAreFixed : Prop :=
  ∀ f : Frame,
    (render f)[0]? = some 0x42#8 ∧ (render f)[1]? = some 0x3A#8 ∧
    (∀ i : Fin 8, (render f)[2 + i.val]? = some (if f.btn[i] then 0x31#8 else 0x30#8)) ∧
    (render f)[10]? = some 0x2C#8 ∧ (render f)[11]? = some 0x41#8 ∧ (render f)[12]? = some 0x3A#8 ∧
    (render f).drop 13 = dec f.ax[0].toInt ++ [0x2C#8] ++ dec f.ax[1].toInt ++ [0x2C#8] ++
      dec f.ax[2].toInt ++ [0x2C#8] ++ dec f.ax[3].toInt ++ [0x0A#8]

/-- 42_packet_assembler.md R117: the worked example. Handing off the frame of button 2 and axes
(24, 0, 0, 0) to an idle transport writes the rule's 22 bytes and emits `TxStart(22)`. -/
def Obligations.WorkedExampleIsHandedOff : Prop :=
  ∀ s : State, s.txBusy = false →
    s.frame = { btn := #v[false, false, true, false, false, false, false, false],
                ax := #v[24#16, 0#16, 0#16, 0#16] } →
    (handoff s).txBuf.toList.take 22 =
      [0x42#8, 0x3A#8, 0x30#8, 0x30#8, 0x31#8, 0x30#8, 0x30#8, 0x30#8, 0x30#8, 0x30#8, 0x2C#8,
       0x41#8, 0x3A#8, 0x32#8, 0x34#8, 0x2C#8, 0x30#8, 0x2C#8, 0x30#8, 0x2C#8, 0x30#8, 0x0A#8] ∧
    (handoff s).txLen = 22#6 ∧ (handoff s).txBusy = true ∧
    (handoff s).trace = s.trace ++ [.txStart 22]

/-! ## TX_DONE and the transport -/

/-- R108: a TX_DONE clears `TX_BUSY` and writes nothing else; it has no effect while halted. -/
def Obligations.TxDoneOnlyReleasesTheBuffer : Prop :=
  ∀ s : State,
    (s.halted = true → exec .txDone s = .next s) ∧
    (s.halted = false → exec .txDone s = .next { s with txBusy := false })

/-- R109, 20_memory.md R49 (b): while the transport owns the buffer no event writes `TXBUF` or
`TX_LEN`, through any events but TX_DONE and RESET; TX_DONE writes neither, and RESET, the one
exception, clears `TX_BUSY` and leaves `TXBUF` unspecified. -/
def Obligations.OwnedBufferIsStable : Prop :=
  ∀ (is : List Instr) (s : State), s.txBusy = true → (∀ e ∈ is, e ≠ .txDone ∧ e ≠ .reset) →
    ∃ t : State, runEvents is s = .next t ∧
      t.txBuf = s.txBuf ∧ t.txLen = s.txLen ∧ t.txBusy = true ∧
      (∃ u : State, exec .txDone t = .next u ∧ u.txBuf = s.txBuf ∧ u.txLen = s.txLen) ∧
      (∃ v : State, exec .reset t = .next v ∧ v.txBusy = false)

/-- R114: from the hand-off until TX_DONE or a RESET, every read of byte k of the packet through the
transport's read port, at any moment and any number of times, gives the byte the hand-off wrote. -/
def Obligations.TransportReadsTheRenderedPacket : Prop :=
  ∀ (r0 r1 r2 r3 : BitVec 16) (is : List Instr) (s : State),
    s.mode = .run → s.halted = false → s.convBusy = true → s.txBusy = false →
    (∀ e ∈ is, e ≠ .txDone ∧ e ≠ .reset) →
    ∃ t u : State, exec (.convDone r0 r1 r2 r3) s = .next t ∧ runEvents is t = .next u ∧
      ∀ (draw : Nat) (addr : BitVec 6), addr.toNat < (render t.frame).length →
        (render t.frame)[addr.toNat]? = some (txRdata draw addr u)

/-! ## PLATFORM_FAULT, RESET and the modes -/

/-- 60_exceptions.md R127: a PLATFORM_FAULT sets `HALTED` and writes nothing else; a second one has
no effect. -/
def Obligations.PlatformFaultOnlyHalts : Prop :=
  ∀ s : State, exec .platformFault s = .next { s with halted := true }

/-- R128: while halted no event but RESET has any effect or output; RESET leaves the state. -/
def Obligations.HaltedStateIsLeftByResetOnly : Prop :=
  ∀ (is : List Instr) (s : State), s.halted = true → (∀ e ∈ is, e ≠ .reset) →
    runEvents is s = .next s ∧
    ∃ t : State, exec .reset s = .next t ∧ t.halted = false ∧ t.mode = .cal

/-- 70_reset_and_hazards.md R137, of the fields R137 gives a value: RESET writes each of them in
every condition and emits nothing. The fields R137 leaves with no value are not constrained. -/
def Obligations.ResetInitialisesTheState : Prop :=
  ∀ s : State, ∃ t : State, exec .reset s = .next t ∧
    t.mode = .cal ∧ t.halted = false ∧
    (∀ i : Fin 8, t.edgePending[i] = false ∧ t.debRemain[i] = 0#4 ∧ t.stable[i] = false ∧
      t.btnSnap[i] = false) ∧
    t.snapCnt = 0#5 ∧ t.repollCnt = 0#7 ∧ t.convBusy = false ∧ t.calCount = 0#5 ∧
    (∀ ch : Fin 4, t.calSum[ch] = 0#32) ∧ t.frameValid = false ∧ t.txLen = 0#6 ∧
    t.txBusy = false ∧ t.trace = s.trace ∧ t.stream = s.stream ∧ t.pos = s.pos

/-- R139, 10_state.md R31: in RUN no event but RESET returns to CAL or writes `ZERO_OFFSET`. -/
def Obligations.OffsetIsWriteOncePerReset : Prop :=
  ∀ (is : List Instr) (s : State), s.mode = .run → (∀ e ∈ is, e ≠ .reset) →
    ∃ t : State, runEvents is s = .next t ∧ t.mode = .run ∧ t.zeroOffset = s.zeroOffset

/-- 60_exceptions.md R130: the only transitions between CAL, RUN and HALTED. -/
def Obligations.ModesChangeOnlyAsListed : Prop :=
  ∀ (i : Instr) (s t : State), exec i s = .next t →
    (t.mode ≠ s.mode →
      (i = .reset ∧ t.mode = .cal) ∨
      (isConvDone i = true ∧ s.halted = false ∧ s.calCount.toNat = 19 ∧ t.mode = .run)) ∧
    (t.halted ≠ s.halted →
      (i = .reset ∧ t.halted = false) ∨ (i = .platformFault ∧ t.halted = true))

/-- 10_state.md R40: the writers of every field, event by event; what an event does not write keeps
its value, and a field listed "set only" or "clear only" moves that way alone. -/
def Obligations.EachFieldHasItsWriters : Prop :=
  ∀ (i : Instr) (s t : State), exec i s = .next t →
    match i with
    | .edge ch =>
      t = { s with edgePending := t.edgePending } ∧
      ∀ j : Fin 8, (s.edgePending[j] = true → t.edgePending[j] = true) ∧
        (j ≠ ch → t.edgePending[j] = s.edgePending[j])
    | .tick _ =>
      t = { s with edgePending := t.edgePending, debRemain := t.debRemain, stable := t.stable,
                   snapCnt := t.snapCnt, repollCnt := t.repollCnt, btnSnap := t.btnSnap,
                   convBusy := t.convBusy, trace := t.trace } ∧
      (∀ j : Fin 8, t.edgePending[j] = true → s.edgePending[j] = true) ∧
      (s.convBusy = true → t.convBusy = true)
    | .convDone _ _ _ _ =>
      t = { s with calCount := t.calCount, calSum := t.calSum, zeroOffset := t.zeroOffset,
                   mode := t.mode, snapCnt := t.snapCnt, repollCnt := t.repollCnt, raw := t.raw,
                   chScaled := t.chScaled, frame := t.frame, frameValid := t.frameValid,
                   convBusy := t.convBusy, txBuf := t.txBuf, txLen := t.txLen,
                   txBusy := t.txBusy, trace := t.trace, freeCount := t.freeCount } ∧
      (t.convBusy = true → s.convBusy = true) ∧ (s.txBusy = true → t.txBusy = true) ∧
      (t.mode = s.mode → t.snapCnt = s.snapCnt ∧ t.repollCnt = s.repollCnt) ∧
      (t.mode ≠ s.mode → t.snapCnt = 0#5 ∧ t.repollCnt = 0#7)
    | .txDone =>
      t = { s with txBusy := t.txBusy } ∧ (t.txBusy = true → s.txBusy = true)
    | .platformFault =>
      t = { s with halted := t.halted } ∧ (s.halted = true → t.halted = true)
    | .reset => t.trace = s.trace ∧ t.stream = s.stream ∧ t.pos = s.pos

/-- 42_packet_assembler.md R112, R113: what each event can emit. Only a boundary TICK emits
`ConvStart`, and only a CONV_DONE that finds the transport idle emits `TxStart(n)`, with n in 21..37;
each at most once, at the end of the trace. -/
def Obligations.EventsEmitOnlyTheirPulses : Prop :=
  ∀ (i : Instr) (s t : State), exec i s = .next t →
    t.trace = s.trace ∨
    (isTick i = true ∧ s.mode = .run ∧ s.halted = false ∧ (s.snapCnt.toNat + 1) % 20 = 0 ∧
      t.trace = s.trace ++ [.convStart]) ∨
    (isConvDone i = true ∧ s.convBusy = true ∧ s.txBusy = false ∧ ∃ n : Nat, 21 ≤ n ∧ n ≤ 37 ∧ t.trace = s.trace ++ [.txStart n])

/-- 42_packet_assembler.md R115 over any run, with RESETs and faults in it: packets never outnumber
boundaries. From a state with no conversion outstanding, at most one packet is handed over per
conversion requested. -/
def Obligations.PacketsNeverOutnumberBoundaries : Prop :=
  ∀ (is : List Instr) (s : State), s.convBusy = false →
    ∃ t : State, runEvents is s = .next t ∧
      countTxStart (outputsBetween s t) ≤ countConvStart (outputsBetween s t)

/-- 40_debounce.md R83, 41_axis_scaler.md R91, 93_implementation_defined.md I13: an event in the
wrong phase has no effect. A TICK in CAL mode, a CONV_DONE in RUN with no conversion outstanding and
a TX_DONE with no buffer owned leave every field and the trace as they were, and so does any of
them while halted. -/
def Obligations.EventsOutOfPhaseHaveNoEffect : Prop :=
  ∀ (i : Instr) (s : State),
    (keepsPhase s i = false → exec i s = .next s) ∧
    (s.halted = true → i ≠ .reset → exec i s = .next s)

/-! ## Simultaneous events and ports -/

/-- 60_exceptions.md R121: the events of one cycle are exactly those its ports present, in the fixed
order, each once. -/
def Obligations.CycleEventsFollowThePriority : Prop :=
  ∀ c : CycleIn,
    (serialise c).Pairwise (fun a b => eventRank a < eventRank b) ∧
    (.reset ∈ serialise c ↔ c.rst = true) ∧
    (.platformFault ∈ serialise c ↔ c.platFault = true) ∧
    (.txDone ∈ serialise c ↔ c.txDone = true) ∧
    (∀ r0 r1 r2 r3 : BitVec 16, .convDone r0 r1 r2 r3 ∈ serialise c ↔
      c.convDone = true ∧ c.raw = #v[r0, r1, r2, r3]) ∧
    (∀ p : BitVec 8, .tick p ∈ serialise c ↔ c.tick = true ∧ p = c.pin) ∧
    (∀ i : Fin 8, .edge i ∈ serialise c ↔ c.edge.getLsbD i.val = true)

/-- 40_debounce.md R86: the tick does not see an edge presented in its own cycle (an idle channel
stays idle in it); the latch survives that tick, and the next tick consumes it. -/
def Obligations.EdgeInTickCycleSurvives : Prop :=
  ∀ (c : CycleIn) (p : BitVec 8) (s : State) (i : Fin 8),
    s.mode = .run → s.halted = false → c.rst = false → c.platFault = false → c.tick = true →
    c.edge.getLsbD i.val = true →
    ∃ t u : State, cycle c s = .next t ∧ t.edgePending[i] = true ∧
      (s.edgePending[i] = false → s.debRemain[i] = 0#4 → t.debRemain[i] = 0#4) ∧
      exec (.tick p) t = .next u ∧ u.edgePending[i] = false ∧ u.debRemain[i] = 14#4

/-- R121's reasons for TX_DONE before CONV_DONE before TICK: a packet that completes in the cycle of
a new frame frees the buffer for it, and a completion at a boundary pairs with the snapshot it was
requested with, before the boundary takes the next. -/
def Obligations.CompletionInCyclePairsWithOldSnapshot : Prop :=
  ∀ (c : CycleIn) (s : State), s.mode = .run → s.halted = false → s.convBusy = true →
    c.rst = false → c.platFault = false → c.convDone = true →
    ∃ t : State, cycle c s = .next t ∧ t.frame.btn = s.btnSnap ∧ t.frameValid = true ∧
      (c.txDone = true ∨ s.txBusy = false → hasTxStart (outputsBetween s t) = true) ∧
      (c.tick = true → (s.snapCnt.toNat + 1) % 20 = 0 → t.convBusy = true ∧ t.btnSnap = t.stable)

/-- 42_packet_assembler.md R110: with a frame committed, the frame ports show it, button i at bit i;
`frame_valid`, `tx_busy` and `halted` always show their fields. -/
def Obligations.FramePortsShowTheFrame : Prop :=
  ∀ (draw : Nat) (before after : State),
    (portsOut draw before after).frameValid = after.frameValid ∧
    (portsOut draw before after).txBusy = after.txBusy ∧
    (portsOut draw before after).halted = after.halted ∧
    (after.frameValid = true →
      (portsOut draw before after).frameAx = after.frame.ax ∧
      ∀ i : Fin 8, (portsOut draw before after).frameBtn.getLsbD i.val = after.frame.btn[i])

/-! ## Invariants -/

/-- 10_state.md R41: every step keeps the invariants, from every state that meets them. -/
def Obligations.EveryStepKeepsLegal : Prop :=
  ∀ s t : State, s.Legal → step s = .next t → t.Legal

/-- 10_state.md R41 of the state reset leaves. -/
def Obligations.ResetStateIsLegal : Prop :=
  State.reset.Legal ∧ ∀ s t : State, exec .reset s = .next t → t.Legal

/-- 20_memory.md R49 (b) and 30_encoding.md R67: every step keeps the buffer that the transport owns
a packet of the grammar. -/
def Obligations.EveryStepKeepsPacketIntact : Prop :=
  ∀ s t : State, s.PacketIntact → step s = .next t → t.PacketIntact

/-- R151, R62: the run, from the state reset leaves, of a word stream that is all events refuses
nothing and ends in the state that its events give; its list of packets has one entry for each
`TxStart` of the trace. -/
def Obligations.RunOfEventWordsHasNoRefusal : Prop :=
  ∀ is : List Instr, ∃ t : State,
    runEvents is { State.reset with stream := encodeAll is } = .next t ∧
    (runWords (encodeAll is)).refusal = none ∧ (runWords (encodeAll is)).fault = none ∧
    (runWords (encodeAll is)).final = { t with stream := [], pos := (encodeAll is).length } ∧
    (runWords (encodeAll is)).packets.length = countTxStart t.trace

/-! ## Event scripts -/

/-- 30_encoding.md R65, R66: each kind of statement assembles to its events, comments are dropped,
and a line with an operand out of range is refused and named. That it is named by its number,
counted from 1, is the model's choice (log 15, DESIGN CHOICE). -/
def Obligations.ScriptStatementsAssemble : Prop :=
  assembleScript "reset ; start\nedge 7\ntick 0xFB\ntick 0b11111011\nconv 2548,0x0800, 0,65535\ntxdone\nfault\nticks 2, 0xFF".toList =
    .ok [.reset, .edge 7, .tick 0xFB#8, .tick 0xFB#8, .convDone 2548#16 2048#16 0#16 65535#16,
      .txDone, .platformFault, .tick 0xFF#8, .tick 0xFF#8] ∧
  assembleScript "calibrate 1,2,3,4".toList =
    .ok (List.replicate 20 (.convDone 1#16 2#16 3#16 4#16)) ∧
  assembleScript "reset\nedge 8".toList = .error 2 ∧
  assembleScript "conv 65536,0,0,0".toList = .error 1
end

