-- ==== Sys2Proof/Laws/State.lean ====
section
/-! SUPPORT. One lemma per field per update of the state, so that no later proof unfolds a record update. -/

namespace Sys2Proof.Machine

/-! ### State.emit -/

@[simp] theorem State.emit_mode (o : Output) (s : State) : (s.emit o).mode = s.mode := rfl
@[simp] theorem State.emit_halted (o : Output) (s : State) : (s.emit o).halted = s.halted := rfl
@[simp] theorem State.emit_edgePending (o : Output) (s : State) :
    (s.emit o).edgePending = s.edgePending := rfl
@[simp] theorem State.emit_debRemain (o : Output) (s : State) :
    (s.emit o).debRemain = s.debRemain := rfl
@[simp] theorem State.emit_stable (o : Output) (s : State) : (s.emit o).stable = s.stable := rfl
@[simp] theorem State.emit_snapCnt (o : Output) (s : State) : (s.emit o).snapCnt = s.snapCnt := rfl
@[simp] theorem State.emit_repollCnt (o : Output) (s : State) :
    (s.emit o).repollCnt = s.repollCnt := rfl
@[simp] theorem State.emit_btnSnap (o : Output) (s : State) : (s.emit o).btnSnap = s.btnSnap := rfl
@[simp] theorem State.emit_convBusy (o : Output) (s : State) :
    (s.emit o).convBusy = s.convBusy := rfl
@[simp] theorem State.emit_calCount (o : Output) (s : State) :
    (s.emit o).calCount = s.calCount := rfl
@[simp] theorem State.emit_calSum (o : Output) (s : State) : (s.emit o).calSum = s.calSum := rfl
@[simp] theorem State.emit_zeroOffset (o : Output) (s : State) :
    (s.emit o).zeroOffset = s.zeroOffset := rfl
@[simp] theorem State.emit_raw (o : Output) (s : State) : (s.emit o).raw = s.raw := rfl
@[simp] theorem State.emit_chScaled (o : Output) (s : State) :
    (s.emit o).chScaled = s.chScaled := rfl
@[simp] theorem State.emit_frameValid (o : Output) (s : State) :
    (s.emit o).frameValid = s.frameValid := rfl
@[simp] theorem State.emit_frame (o : Output) (s : State) : (s.emit o).frame = s.frame := rfl
@[simp] theorem State.emit_txBuf (o : Output) (s : State) : (s.emit o).txBuf = s.txBuf := rfl
@[simp] theorem State.emit_txLen (o : Output) (s : State) : (s.emit o).txLen = s.txLen := rfl
@[simp] theorem State.emit_txBusy (o : Output) (s : State) : (s.emit o).txBusy = s.txBusy := rfl
@[simp] theorem State.emit_trace (o : Output) (s : State) : (s.emit o).trace = s.trace ++ [o] := rfl
@[simp] theorem State.emit_stream (o : Output) (s : State) : (s.emit o).stream = s.stream := rfl
@[simp] theorem State.emit_pos (o : Output) (s : State) : (s.emit o).pos = s.pos := rfl
@[simp] theorem State.emit_freeCount (o : Output) (s : State) :
    (s.emit o).freeCount = s.freeCount := rfl

/-! ### latchEdge -/

@[simp] theorem latchEdge_mode (ch : Fin 8) (s : State) : (latchEdge ch s).mode = s.mode := rfl
@[simp] theorem latchEdge_halted (ch : Fin 8) (s : State) :
    (latchEdge ch s).halted = s.halted := rfl
@[simp] theorem latchEdge_edgePending (ch : Fin 8) (s : State) :
    (latchEdge ch s).edgePending = s.edgePending.set ch true := rfl
@[simp] theorem latchEdge_debRemain (ch : Fin 8) (s : State) :
    (latchEdge ch s).debRemain = s.debRemain := rfl
@[simp] theorem latchEdge_stable (ch : Fin 8) (s : State) :
    (latchEdge ch s).stable = s.stable := rfl
@[simp] theorem latchEdge_snapCnt (ch : Fin 8) (s : State) :
    (latchEdge ch s).snapCnt = s.snapCnt := rfl
@[simp] theorem latchEdge_repollCnt (ch : Fin 8) (s : State) :
    (latchEdge ch s).repollCnt = s.repollCnt := rfl
@[simp] theorem latchEdge_btnSnap (ch : Fin 8) (s : State) :
    (latchEdge ch s).btnSnap = s.btnSnap := rfl
@[simp] theorem latchEdge_convBusy (ch : Fin 8) (s : State) :
    (latchEdge ch s).convBusy = s.convBusy := rfl
@[simp] theorem latchEdge_calCount (ch : Fin 8) (s : State) :
    (latchEdge ch s).calCount = s.calCount := rfl
@[simp] theorem latchEdge_calSum (ch : Fin 8) (s : State) :
    (latchEdge ch s).calSum = s.calSum := rfl
@[simp] theorem latchEdge_zeroOffset (ch : Fin 8) (s : State) :
    (latchEdge ch s).zeroOffset = s.zeroOffset := rfl
@[simp] theorem latchEdge_raw (ch : Fin 8) (s : State) : (latchEdge ch s).raw = s.raw := rfl
@[simp] theorem latchEdge_chScaled (ch : Fin 8) (s : State) :
    (latchEdge ch s).chScaled = s.chScaled := rfl
@[simp] theorem latchEdge_frameValid (ch : Fin 8) (s : State) :
    (latchEdge ch s).frameValid = s.frameValid := rfl
@[simp] theorem latchEdge_frame (ch : Fin 8) (s : State) : (latchEdge ch s).frame = s.frame := rfl
@[simp] theorem latchEdge_txBuf (ch : Fin 8) (s : State) : (latchEdge ch s).txBuf = s.txBuf := rfl
@[simp] theorem latchEdge_txLen (ch : Fin 8) (s : State) : (latchEdge ch s).txLen = s.txLen := rfl
@[simp] theorem latchEdge_txBusy (ch : Fin 8) (s : State) :
    (latchEdge ch s).txBusy = s.txBusy := rfl
@[simp] theorem latchEdge_trace (ch : Fin 8) (s : State) : (latchEdge ch s).trace = s.trace := rfl
@[simp] theorem latchEdge_stream (ch : Fin 8) (s : State) :
    (latchEdge ch s).stream = s.stream := rfl
@[simp] theorem latchEdge_pos (ch : Fin 8) (s : State) : (latchEdge ch s).pos = s.pos := rfl
@[simp] theorem latchEdge_freeCount (ch : Fin 8) (s : State) :
    (latchEdge ch s).freeCount = s.freeCount := rfl

/-! ### debounceStep -/

@[simp] theorem debounceStep_mode (c : Config) (p : BitVec 8) (s : State) :
    (debounceStep c p s).mode = s.mode := rfl
@[simp] theorem debounceStep_halted (c : Config) (p : BitVec 8) (s : State) :
    (debounceStep c p s).halted = s.halted := rfl
@[simp] theorem debounceStep_edgePending (c : Config) (p : BitVec 8) (s : State) :
    (debounceStep c p s).edgePending = Vector.replicate 8 false := rfl
@[simp] theorem debounceStep_debRemain (c : Config) (p : BitVec 8) (s : State) :
    (debounceStep c p s).debRemain = Vector.ofFn fun i : Fin 8 =>
      (debounceChannel c s.edgePending[i] s.debRemain[i] s.stable[i] (pressed p i)).1 := rfl
@[simp] theorem debounceStep_stable (c : Config) (p : BitVec 8) (s : State) :
    (debounceStep c p s).stable = Vector.ofFn fun i : Fin 8 =>
      (debounceChannel c s.edgePending[i] s.debRemain[i] s.stable[i] (pressed p i)).2 := rfl
@[simp] theorem debounceStep_snapCnt (c : Config) (p : BitVec 8) (s : State) :
    (debounceStep c p s).snapCnt = s.snapCnt := rfl
@[simp] theorem debounceStep_repollCnt (c : Config) (p : BitVec 8) (s : State) :
    (debounceStep c p s).repollCnt = s.repollCnt := rfl
@[simp] theorem debounceStep_btnSnap (c : Config) (p : BitVec 8) (s : State) :
    (debounceStep c p s).btnSnap = s.btnSnap := rfl
@[simp] theorem debounceStep_convBusy (c : Config) (p : BitVec 8) (s : State) :
    (debounceStep c p s).convBusy = s.convBusy := rfl
@[simp] theorem debounceStep_calCount (c : Config) (p : BitVec 8) (s : State) :
    (debounceStep c p s).calCount = s.calCount := rfl
@[simp] theorem debounceStep_calSum (c : Config) (p : BitVec 8) (s : State) :
    (debounceStep c p s).calSum = s.calSum := rfl
@[simp] theorem debounceStep_zeroOffset (c : Config) (p : BitVec 8) (s : State) :
    (debounceStep c p s).zeroOffset = s.zeroOffset := rfl
@[simp] theorem debounceStep_raw (c : Config) (p : BitVec 8) (s : State) :
    (debounceStep c p s).raw = s.raw := rfl
@[simp] theorem debounceStep_chScaled (c : Config) (p : BitVec 8) (s : State) :
    (debounceStep c p s).chScaled = s.chScaled := rfl
@[simp] theorem debounceStep_frameValid (c : Config) (p : BitVec 8) (s : State) :
    (debounceStep c p s).frameValid = s.frameValid := rfl
@[simp] theorem debounceStep_frame (c : Config) (p : BitVec 8) (s : State) :
    (debounceStep c p s).frame = s.frame := rfl
@[simp] theorem debounceStep_txBuf (c : Config) (p : BitVec 8) (s : State) :
    (debounceStep c p s).txBuf = s.txBuf := rfl
@[simp] theorem debounceStep_txLen (c : Config) (p : BitVec 8) (s : State) :
    (debounceStep c p s).txLen = s.txLen := rfl
@[simp] theorem debounceStep_txBusy (c : Config) (p : BitVec 8) (s : State) :
    (debounceStep c p s).txBusy = s.txBusy := rfl
@[simp] theorem debounceStep_trace (c : Config) (p : BitVec 8) (s : State) :
    (debounceStep c p s).trace = s.trace := rfl
@[simp] theorem debounceStep_stream (c : Config) (p : BitVec 8) (s : State) :
    (debounceStep c p s).stream = s.stream := rfl
@[simp] theorem debounceStep_pos (c : Config) (p : BitVec 8) (s : State) :
    (debounceStep c p s).pos = s.pos := rfl
@[simp] theorem debounceStep_freeCount (c : Config) (p : BitVec 8) (s : State) :
    (debounceStep c p s).freeCount = s.freeCount := rfl

/-! ### advanceCounters -/

@[simp] theorem advanceCounters_mode (c : Config) (s : State) :
    (advanceCounters c s).mode = s.mode := rfl
@[simp] theorem advanceCounters_halted (c : Config) (s : State) :
    (advanceCounters c s).halted = s.halted := rfl
@[simp] theorem advanceCounters_edgePending (c : Config) (s : State) :
    (advanceCounters c s).edgePending = s.edgePending := rfl
@[simp] theorem advanceCounters_debRemain (c : Config) (s : State) :
    (advanceCounters c s).debRemain = s.debRemain := rfl
@[simp] theorem advanceCounters_stable (c : Config) (s : State) :
    (advanceCounters c s).stable = s.stable := rfl
@[simp] theorem advanceCounters_snapCnt (c : Config) (s : State) :
    (advanceCounters c s).snapCnt = BitVec.ofNat 5 (nextCount s.snapCnt.toNat c.snapPeriod) := rfl
@[simp] theorem advanceCounters_repollCnt (c : Config) (s : State) :
    (advanceCounters c s).repollCnt = BitVec.ofNat 7 (nextCount s.repollCnt.toNat c.repollPeriod) := rfl
@[simp] theorem advanceCounters_btnSnap (c : Config) (s : State) :
    (advanceCounters c s).btnSnap = s.btnSnap := rfl
@[simp] theorem advanceCounters_convBusy (c : Config) (s : State) :
    (advanceCounters c s).convBusy = s.convBusy := rfl
@[simp] theorem advanceCounters_calCount (c : Config) (s : State) :
    (advanceCounters c s).calCount = s.calCount := rfl
@[simp] theorem advanceCounters_calSum (c : Config) (s : State) :
    (advanceCounters c s).calSum = s.calSum := rfl
@[simp] theorem advanceCounters_zeroOffset (c : Config) (s : State) :
    (advanceCounters c s).zeroOffset = s.zeroOffset := rfl
@[simp] theorem advanceCounters_raw (c : Config) (s : State) :
    (advanceCounters c s).raw = s.raw := rfl
@[simp] theorem advanceCounters_chScaled (c : Config) (s : State) :
    (advanceCounters c s).chScaled = s.chScaled := rfl
@[simp] theorem advanceCounters_frameValid (c : Config) (s : State) :
    (advanceCounters c s).frameValid = s.frameValid := rfl
@[simp] theorem advanceCounters_frame (c : Config) (s : State) :
    (advanceCounters c s).frame = s.frame := rfl
@[simp] theorem advanceCounters_txBuf (c : Config) (s : State) :
    (advanceCounters c s).txBuf = s.txBuf := rfl
@[simp] theorem advanceCounters_txLen (c : Config) (s : State) :
    (advanceCounters c s).txLen = s.txLen := rfl
@[simp] theorem advanceCounters_txBusy (c : Config) (s : State) :
    (advanceCounters c s).txBusy = s.txBusy := rfl
@[simp] theorem advanceCounters_trace (c : Config) (s : State) :
    (advanceCounters c s).trace = s.trace := rfl
@[simp] theorem advanceCounters_stream (c : Config) (s : State) :
    (advanceCounters c s).stream = s.stream := rfl
@[simp] theorem advanceCounters_pos (c : Config) (s : State) :
    (advanceCounters c s).pos = s.pos := rfl
@[simp] theorem advanceCounters_freeCount (c : Config) (s : State) :
    (advanceCounters c s).freeCount = s.freeCount := rfl

/-! ### addReading -/

@[simp] theorem addReading_mode (r : PerChannel (BitVec 16)) (s : State) :
    (addReading r s).mode = s.mode := rfl
@[simp] theorem addReading_halted (r : PerChannel (BitVec 16)) (s : State) :
    (addReading r s).halted = s.halted := rfl
@[simp] theorem addReading_edgePending (r : PerChannel (BitVec 16)) (s : State) :
    (addReading r s).edgePending = s.edgePending := rfl
@[simp] theorem addReading_debRemain (r : PerChannel (BitVec 16)) (s : State) :
    (addReading r s).debRemain = s.debRemain := rfl
@[simp] theorem addReading_stable (r : PerChannel (BitVec 16)) (s : State) :
    (addReading r s).stable = s.stable := rfl
@[simp] theorem addReading_snapCnt (r : PerChannel (BitVec 16)) (s : State) :
    (addReading r s).snapCnt = s.snapCnt := rfl
@[simp] theorem addReading_repollCnt (r : PerChannel (BitVec 16)) (s : State) :
    (addReading r s).repollCnt = s.repollCnt := rfl
@[simp] theorem addReading_btnSnap (r : PerChannel (BitVec 16)) (s : State) :
    (addReading r s).btnSnap = s.btnSnap := rfl
@[simp] theorem addReading_convBusy (r : PerChannel (BitVec 16)) (s : State) :
    (addReading r s).convBusy = s.convBusy := rfl
@[simp] theorem addReading_calCount (r : PerChannel (BitVec 16)) (s : State) :
    (addReading r s).calCount = s.calCount + 1#5 := rfl
@[simp] theorem addReading_calSum (r : PerChannel (BitVec 16)) (s : State) :
    (addReading r s).calSum = Vector.ofFn fun ch : Fin 4 => s.calSum[ch] + sampleToSum r[ch] := rfl
@[simp] theorem addReading_zeroOffset (r : PerChannel (BitVec 16)) (s : State) :
    (addReading r s).zeroOffset = s.zeroOffset := rfl
@[simp] theorem addReading_raw (r : PerChannel (BitVec 16)) (s : State) :
    (addReading r s).raw = s.raw := rfl
@[simp] theorem addReading_chScaled (r : PerChannel (BitVec 16)) (s : State) :
    (addReading r s).chScaled = s.chScaled := rfl
@[simp] theorem addReading_frameValid (r : PerChannel (BitVec 16)) (s : State) :
    (addReading r s).frameValid = s.frameValid := rfl
@[simp] theorem addReading_frame (r : PerChannel (BitVec 16)) (s : State) :
    (addReading r s).frame = s.frame := rfl
@[simp] theorem addReading_txBuf (r : PerChannel (BitVec 16)) (s : State) :
    (addReading r s).txBuf = s.txBuf := rfl
@[simp] theorem addReading_txLen (r : PerChannel (BitVec 16)) (s : State) :
    (addReading r s).txLen = s.txLen := rfl
@[simp] theorem addReading_txBusy (r : PerChannel (BitVec 16)) (s : State) :
    (addReading r s).txBusy = s.txBusy := rfl
@[simp] theorem addReading_trace (r : PerChannel (BitVec 16)) (s : State) :
    (addReading r s).trace = s.trace := rfl
@[simp] theorem addReading_stream (r : PerChannel (BitVec 16)) (s : State) :
    (addReading r s).stream = s.stream := rfl
@[simp] theorem addReading_pos (r : PerChannel (BitVec 16)) (s : State) :
    (addReading r s).pos = s.pos := rfl
@[simp] theorem addReading_freeCount (r : PerChannel (BitVec 16)) (s : State) :
    (addReading r s).freeCount = s.freeCount := rfl

/-! ### calEnd -/

@[simp] theorem calEnd_mode (c : Config) (s : State) : (calEnd c s).mode = .run := rfl
@[simp] theorem calEnd_halted (c : Config) (s : State) : (calEnd c s).halted = s.halted := rfl
@[simp] theorem calEnd_edgePending (c : Config) (s : State) :
    (calEnd c s).edgePending = s.edgePending := rfl
@[simp] theorem calEnd_debRemain (c : Config) (s : State) :
    (calEnd c s).debRemain = s.debRemain := rfl
@[simp] theorem calEnd_stable (c : Config) (s : State) : (calEnd c s).stable = s.stable := rfl
@[simp] theorem calEnd_snapCnt (c : Config) (s : State) : (calEnd c s).snapCnt = 0#5 := rfl
@[simp] theorem calEnd_repollCnt (c : Config) (s : State) : (calEnd c s).repollCnt = 0#7 := rfl
@[simp] theorem calEnd_btnSnap (c : Config) (s : State) : (calEnd c s).btnSnap = s.btnSnap := rfl
@[simp] theorem calEnd_convBusy (c : Config) (s : State) : (calEnd c s).convBusy = s.convBusy := rfl
@[simp] theorem calEnd_calCount (c : Config) (s : State) : (calEnd c s).calCount = s.calCount := rfl
@[simp] theorem calEnd_calSum (c : Config) (s : State) :
    (calEnd c s).calSum = Config.freeCalSum s.freeCount := rfl
@[simp] theorem calEnd_zeroOffset (c : Config) (s : State) :
    (calEnd c s).zeroOffset = Vector.ofFn fun ch : Fin 4 => offsetOfSum c s.calSum[ch] := rfl
@[simp] theorem calEnd_raw (c : Config) (s : State) : (calEnd c s).raw = s.raw := rfl
@[simp] theorem calEnd_chScaled (c : Config) (s : State) : (calEnd c s).chScaled = s.chScaled := rfl
@[simp] theorem calEnd_frameValid (c : Config) (s : State) :
    (calEnd c s).frameValid = s.frameValid := rfl
@[simp] theorem calEnd_frame (c : Config) (s : State) : (calEnd c s).frame = s.frame := rfl
@[simp] theorem calEnd_txBuf (c : Config) (s : State) : (calEnd c s).txBuf = s.txBuf := rfl
@[simp] theorem calEnd_txLen (c : Config) (s : State) : (calEnd c s).txLen = s.txLen := rfl
@[simp] theorem calEnd_txBusy (c : Config) (s : State) : (calEnd c s).txBusy = s.txBusy := rfl
@[simp] theorem calEnd_trace (c : Config) (s : State) : (calEnd c s).trace = s.trace := rfl
@[simp] theorem calEnd_stream (c : Config) (s : State) : (calEnd c s).stream = s.stream := rfl
@[simp] theorem calEnd_pos (c : Config) (s : State) : (calEnd c s).pos = s.pos := rfl
@[simp] theorem calEnd_freeCount (c : Config) (s : State) :
    (calEnd c s).freeCount = s.freeCount + 1 := rfl

/-! ### scaleStep -/

@[simp] theorem scaleStep_mode (c : Config) (r : PerChannel (BitVec 16)) (s : State) :
    (scaleStep c r s).mode = s.mode := rfl
@[simp] theorem scaleStep_halted (c : Config) (r : PerChannel (BitVec 16)) (s : State) :
    (scaleStep c r s).halted = s.halted := rfl
@[simp] theorem scaleStep_edgePending (c : Config) (r : PerChannel (BitVec 16)) (s : State) :
    (scaleStep c r s).edgePending = s.edgePending := rfl
@[simp] theorem scaleStep_debRemain (c : Config) (r : PerChannel (BitVec 16)) (s : State) :
    (scaleStep c r s).debRemain = s.debRemain := rfl
@[simp] theorem scaleStep_stable (c : Config) (r : PerChannel (BitVec 16)) (s : State) :
    (scaleStep c r s).stable = s.stable := rfl
@[simp] theorem scaleStep_snapCnt (c : Config) (r : PerChannel (BitVec 16)) (s : State) :
    (scaleStep c r s).snapCnt = s.snapCnt := rfl
@[simp] theorem scaleStep_repollCnt (c : Config) (r : PerChannel (BitVec 16)) (s : State) :
    (scaleStep c r s).repollCnt = s.repollCnt := rfl
@[simp] theorem scaleStep_btnSnap (c : Config) (r : PerChannel (BitVec 16)) (s : State) :
    (scaleStep c r s).btnSnap = s.btnSnap := rfl
@[simp] theorem scaleStep_convBusy (c : Config) (r : PerChannel (BitVec 16)) (s : State) :
    (scaleStep c r s).convBusy = s.convBusy := rfl
@[simp] theorem scaleStep_calCount (c : Config) (r : PerChannel (BitVec 16)) (s : State) :
    (scaleStep c r s).calCount = s.calCount := rfl
@[simp] theorem scaleStep_calSum (c : Config) (r : PerChannel (BitVec 16)) (s : State) :
    (scaleStep c r s).calSum = s.calSum := rfl
@[simp] theorem scaleStep_zeroOffset (c : Config) (r : PerChannel (BitVec 16)) (s : State) :
    (scaleStep c r s).zeroOffset = s.zeroOffset := rfl
@[simp] theorem scaleStep_raw (c : Config) (r : PerChannel (BitVec 16)) (s : State) :
    (scaleStep c r s).raw = r := rfl
@[simp] theorem scaleStep_chScaled (c : Config) (r : PerChannel (BitVec 16)) (s : State) :
    (scaleStep c r s).chScaled = Vector.ofFn fun ch : Fin 4 =>
      BitVec.ofInt 16 (scaledValue c r[ch] s.zeroOffset[ch]) := rfl
@[simp] theorem scaleStep_frameValid (c : Config) (r : PerChannel (BitVec 16)) (s : State) :
    (scaleStep c r s).frameValid = s.frameValid := rfl
@[simp] theorem scaleStep_frame (c : Config) (r : PerChannel (BitVec 16)) (s : State) :
    (scaleStep c r s).frame = s.frame := rfl
@[simp] theorem scaleStep_txBuf (c : Config) (r : PerChannel (BitVec 16)) (s : State) :
    (scaleStep c r s).txBuf = s.txBuf := rfl
@[simp] theorem scaleStep_txLen (c : Config) (r : PerChannel (BitVec 16)) (s : State) :
    (scaleStep c r s).txLen = s.txLen := rfl
@[simp] theorem scaleStep_txBusy (c : Config) (r : PerChannel (BitVec 16)) (s : State) :
    (scaleStep c r s).txBusy = s.txBusy := rfl
@[simp] theorem scaleStep_trace (c : Config) (r : PerChannel (BitVec 16)) (s : State) :
    (scaleStep c r s).trace = s.trace := rfl
@[simp] theorem scaleStep_stream (c : Config) (r : PerChannel (BitVec 16)) (s : State) :
    (scaleStep c r s).stream = s.stream := rfl
@[simp] theorem scaleStep_pos (c : Config) (r : PerChannel (BitVec 16)) (s : State) :
    (scaleStep c r s).pos = s.pos := rfl
@[simp] theorem scaleStep_freeCount (c : Config) (r : PerChannel (BitVec 16)) (s : State) :
    (scaleStep c r s).freeCount = s.freeCount := rfl

/-! ### consumeRequest -/

@[simp] theorem consumeRequest_mode (s : State) : (consumeRequest s).mode = s.mode := rfl
@[simp] theorem consumeRequest_halted (s : State) : (consumeRequest s).halted = s.halted := rfl
@[simp] theorem consumeRequest_edgePending (s : State) :
    (consumeRequest s).edgePending = s.edgePending := rfl
@[simp] theorem consumeRequest_debRemain (s : State) :
    (consumeRequest s).debRemain = s.debRemain := rfl
@[simp] theorem consumeRequest_stable (s : State) : (consumeRequest s).stable = s.stable := rfl
@[simp] theorem consumeRequest_snapCnt (s : State) : (consumeRequest s).snapCnt = s.snapCnt := rfl
@[simp] theorem consumeRequest_repollCnt (s : State) :
    (consumeRequest s).repollCnt = s.repollCnt := rfl
@[simp] theorem consumeRequest_btnSnap (s : State) : (consumeRequest s).btnSnap = s.btnSnap := rfl
@[simp] theorem consumeRequest_convBusy (s : State) : (consumeRequest s).convBusy = false := rfl
@[simp] theorem consumeRequest_calCount (s : State) :
    (consumeRequest s).calCount = s.calCount := rfl
@[simp] theorem consumeRequest_calSum (s : State) : (consumeRequest s).calSum = s.calSum := rfl
@[simp] theorem consumeRequest_zeroOffset (s : State) :
    (consumeRequest s).zeroOffset = s.zeroOffset := rfl
@[simp] theorem consumeRequest_raw (s : State) : (consumeRequest s).raw = s.raw := rfl
@[simp] theorem consumeRequest_chScaled (s : State) :
    (consumeRequest s).chScaled = s.chScaled := rfl
@[simp] theorem consumeRequest_frameValid (s : State) :
    (consumeRequest s).frameValid = s.frameValid := rfl
@[simp] theorem consumeRequest_frame (s : State) : (consumeRequest s).frame = s.frame := rfl
@[simp] theorem consumeRequest_txBuf (s : State) : (consumeRequest s).txBuf = s.txBuf := rfl
@[simp] theorem consumeRequest_txLen (s : State) : (consumeRequest s).txLen = s.txLen := rfl
@[simp] theorem consumeRequest_txBusy (s : State) : (consumeRequest s).txBusy = s.txBusy := rfl
@[simp] theorem consumeRequest_trace (s : State) : (consumeRequest s).trace = s.trace := rfl
@[simp] theorem consumeRequest_stream (s : State) : (consumeRequest s).stream = s.stream := rfl
@[simp] theorem consumeRequest_pos (s : State) : (consumeRequest s).pos = s.pos := rfl
@[simp] theorem consumeRequest_freeCount (s : State) :
    (consumeRequest s).freeCount = s.freeCount := rfl

/-! ### commit -/

@[simp] theorem commit_mode (c : Config) (s : State) : (commit c s).mode = s.mode := rfl
@[simp] theorem commit_halted (c : Config) (s : State) : (commit c s).halted = s.halted := rfl
@[simp] theorem commit_edgePending (c : Config) (s : State) :
    (commit c s).edgePending = s.edgePending := rfl
@[simp] theorem commit_debRemain (c : Config) (s : State) :
    (commit c s).debRemain = s.debRemain := rfl
@[simp] theorem commit_stable (c : Config) (s : State) : (commit c s).stable = s.stable := rfl
@[simp] theorem commit_snapCnt (c : Config) (s : State) : (commit c s).snapCnt = s.snapCnt := rfl
@[simp] theorem commit_repollCnt (c : Config) (s : State) :
    (commit c s).repollCnt = s.repollCnt := rfl
@[simp] theorem commit_btnSnap (c : Config) (s : State) : (commit c s).btnSnap = s.btnSnap := rfl
@[simp] theorem commit_convBusy (c : Config) (s : State) : (commit c s).convBusy = s.convBusy := rfl
@[simp] theorem commit_calCount (c : Config) (s : State) : (commit c s).calCount = s.calCount := rfl
@[simp] theorem commit_calSum (c : Config) (s : State) : (commit c s).calSum = s.calSum := rfl
@[simp] theorem commit_zeroOffset (c : Config) (s : State) :
    (commit c s).zeroOffset = s.zeroOffset := rfl
@[simp] theorem commit_raw (c : Config) (s : State) : (commit c s).raw = s.raw := rfl
@[simp] theorem commit_chScaled (c : Config) (s : State) : (commit c s).chScaled = s.chScaled := rfl
@[simp] theorem commit_frameValid (c : Config) (s : State) : (commit c s).frameValid = true := rfl
@[simp] theorem commit_frame (c : Config) (s : State) :
    (commit c s).frame = { btn := s.btnSnap, ax := axisVector c s.chScaled } := rfl
@[simp] theorem commit_txBuf (c : Config) (s : State) : (commit c s).txBuf = s.txBuf := rfl
@[simp] theorem commit_txLen (c : Config) (s : State) : (commit c s).txLen = s.txLen := rfl
@[simp] theorem commit_txBusy (c : Config) (s : State) : (commit c s).txBusy = s.txBusy := rfl
@[simp] theorem commit_trace (c : Config) (s : State) : (commit c s).trace = s.trace := rfl
@[simp] theorem commit_stream (c : Config) (s : State) : (commit c s).stream = s.stream := rfl
@[simp] theorem commit_pos (c : Config) (s : State) : (commit c s).pos = s.pos := rfl
@[simp] theorem commit_freeCount (c : Config) (s : State) :
    (commit c s).freeCount = s.freeCount := rfl

/-! ### sendPacket -/

/- Unfolded first: a plain rfl would compare the rendered packet field by field. -/

@[simp] theorem sendPacket_mode (s : State) :
    (sendPacket s).mode = s.mode := by unfold sendPacket State.emit; rfl
@[simp] theorem sendPacket_halted (s : State) :
    (sendPacket s).halted = s.halted := by unfold sendPacket State.emit; rfl
@[simp] theorem sendPacket_edgePending (s : State) :
    (sendPacket s).edgePending = s.edgePending := by unfold sendPacket State.emit; rfl
@[simp] theorem sendPacket_debRemain (s : State) :
    (sendPacket s).debRemain = s.debRemain := by unfold sendPacket State.emit; rfl
@[simp] theorem sendPacket_stable (s : State) :
    (sendPacket s).stable = s.stable := by unfold sendPacket State.emit; rfl
@[simp] theorem sendPacket_snapCnt (s : State) :
    (sendPacket s).snapCnt = s.snapCnt := by unfold sendPacket State.emit; rfl
@[simp] theorem sendPacket_repollCnt (s : State) :
    (sendPacket s).repollCnt = s.repollCnt := by unfold sendPacket State.emit; rfl
@[simp] theorem sendPacket_btnSnap (s : State) :
    (sendPacket s).btnSnap = s.btnSnap := by unfold sendPacket State.emit; rfl
@[simp] theorem sendPacket_convBusy (s : State) :
    (sendPacket s).convBusy = s.convBusy := by unfold sendPacket State.emit; rfl
@[simp] theorem sendPacket_calCount (s : State) :
    (sendPacket s).calCount = s.calCount := by unfold sendPacket State.emit; rfl
@[simp] theorem sendPacket_calSum (s : State) :
    (sendPacket s).calSum = s.calSum := by unfold sendPacket State.emit; rfl
@[simp] theorem sendPacket_zeroOffset (s : State) :
    (sendPacket s).zeroOffset = s.zeroOffset := by unfold sendPacket State.emit; rfl
@[simp] theorem sendPacket_raw (s : State) :
    (sendPacket s).raw = s.raw := by unfold sendPacket State.emit; rfl
@[simp] theorem sendPacket_chScaled (s : State) :
    (sendPacket s).chScaled = s.chScaled := by unfold sendPacket State.emit; rfl
@[simp] theorem sendPacket_frameValid (s : State) :
    (sendPacket s).frameValid = s.frameValid := by unfold sendPacket State.emit; rfl
@[simp] theorem sendPacket_frame (s : State) :
    (sendPacket s).frame = s.frame := by unfold sendPacket State.emit; rfl
@[simp] theorem sendPacket_txBuf (s : State) :
    (sendPacket s).txBuf = packetBuffer (render s.frame) (Config.freeTxBuf s.freeCount) := by unfold sendPacket State.emit; rfl
@[simp] theorem sendPacket_txLen (s : State) :
    (sendPacket s).txLen = BitVec.ofNat 6 (render s.frame).length := by unfold sendPacket State.emit; rfl
@[simp] theorem sendPacket_txBusy (s : State) :
    (sendPacket s).txBusy = true := by unfold sendPacket State.emit; rfl
@[simp] theorem sendPacket_trace (s : State) :
    (sendPacket s).trace = s.trace ++ [.txStart (render s.frame).length] := by unfold sendPacket State.emit; rfl
@[simp] theorem sendPacket_stream (s : State) :
    (sendPacket s).stream = s.stream := by unfold sendPacket State.emit; rfl
@[simp] theorem sendPacket_pos (s : State) :
    (sendPacket s).pos = s.pos := by unfold sendPacket State.emit; rfl
@[simp] theorem sendPacket_freeCount (s : State) :
    (sendPacket s).freeCount = s.freeCount + 1 := by unfold sendPacket State.emit; rfl

/-! ### releaseBuffer -/

@[simp] theorem releaseBuffer_mode (s : State) : (releaseBuffer s).mode = s.mode := rfl
@[simp] theorem releaseBuffer_halted (s : State) : (releaseBuffer s).halted = s.halted := rfl
@[simp] theorem releaseBuffer_edgePending (s : State) :
    (releaseBuffer s).edgePending = s.edgePending := rfl
@[simp] theorem releaseBuffer_debRemain (s : State) :
    (releaseBuffer s).debRemain = s.debRemain := rfl
@[simp] theorem releaseBuffer_stable (s : State) : (releaseBuffer s).stable = s.stable := rfl
@[simp] theorem releaseBuffer_snapCnt (s : State) : (releaseBuffer s).snapCnt = s.snapCnt := rfl
@[simp] theorem releaseBuffer_repollCnt (s : State) :
    (releaseBuffer s).repollCnt = s.repollCnt := rfl
@[simp] theorem releaseBuffer_btnSnap (s : State) : (releaseBuffer s).btnSnap = s.btnSnap := rfl
@[simp] theorem releaseBuffer_convBusy (s : State) : (releaseBuffer s).convBusy = s.convBusy := rfl
@[simp] theorem releaseBuffer_calCount (s : State) : (releaseBuffer s).calCount = s.calCount := rfl
@[simp] theorem releaseBuffer_calSum (s : State) : (releaseBuffer s).calSum = s.calSum := rfl
@[simp] theorem releaseBuffer_zeroOffset (s : State) :
    (releaseBuffer s).zeroOffset = s.zeroOffset := rfl
@[simp] theorem releaseBuffer_raw (s : State) : (releaseBuffer s).raw = s.raw := rfl
@[simp] theorem releaseBuffer_chScaled (s : State) : (releaseBuffer s).chScaled = s.chScaled := rfl
@[simp] theorem releaseBuffer_frameValid (s : State) :
    (releaseBuffer s).frameValid = s.frameValid := rfl
@[simp] theorem releaseBuffer_frame (s : State) : (releaseBuffer s).frame = s.frame := rfl
@[simp] theorem releaseBuffer_txBuf (s : State) : (releaseBuffer s).txBuf = s.txBuf := rfl
@[simp] theorem releaseBuffer_txLen (s : State) : (releaseBuffer s).txLen = s.txLen := rfl
@[simp] theorem releaseBuffer_txBusy (s : State) : (releaseBuffer s).txBusy = false := rfl
@[simp] theorem releaseBuffer_trace (s : State) : (releaseBuffer s).trace = s.trace := rfl
@[simp] theorem releaseBuffer_stream (s : State) : (releaseBuffer s).stream = s.stream := rfl
@[simp] theorem releaseBuffer_pos (s : State) : (releaseBuffer s).pos = s.pos := rfl
@[simp] theorem releaseBuffer_freeCount (s : State) :
    (releaseBuffer s).freeCount = s.freeCount := rfl

/-! ### halt -/

@[simp] theorem halt_mode (s : State) : (halt s).mode = s.mode := rfl
@[simp] theorem halt_halted (s : State) : (halt s).halted = true := rfl
@[simp] theorem halt_edgePending (s : State) : (halt s).edgePending = s.edgePending := rfl
@[simp] theorem halt_debRemain (s : State) : (halt s).debRemain = s.debRemain := rfl
@[simp] theorem halt_stable (s : State) : (halt s).stable = s.stable := rfl
@[simp] theorem halt_snapCnt (s : State) : (halt s).snapCnt = s.snapCnt := rfl
@[simp] theorem halt_repollCnt (s : State) : (halt s).repollCnt = s.repollCnt := rfl
@[simp] theorem halt_btnSnap (s : State) : (halt s).btnSnap = s.btnSnap := rfl
@[simp] theorem halt_convBusy (s : State) : (halt s).convBusy = s.convBusy := rfl
@[simp] theorem halt_calCount (s : State) : (halt s).calCount = s.calCount := rfl
@[simp] theorem halt_calSum (s : State) : (halt s).calSum = s.calSum := rfl
@[simp] theorem halt_zeroOffset (s : State) : (halt s).zeroOffset = s.zeroOffset := rfl
@[simp] theorem halt_raw (s : State) : (halt s).raw = s.raw := rfl
@[simp] theorem halt_chScaled (s : State) : (halt s).chScaled = s.chScaled := rfl
@[simp] theorem halt_frameValid (s : State) : (halt s).frameValid = s.frameValid := rfl
@[simp] theorem halt_frame (s : State) : (halt s).frame = s.frame := rfl
@[simp] theorem halt_txBuf (s : State) : (halt s).txBuf = s.txBuf := rfl
@[simp] theorem halt_txLen (s : State) : (halt s).txLen = s.txLen := rfl
@[simp] theorem halt_txBusy (s : State) : (halt s).txBusy = s.txBusy := rfl
@[simp] theorem halt_trace (s : State) : (halt s).trace = s.trace := rfl
@[simp] theorem halt_stream (s : State) : (halt s).stream = s.stream := rfl
@[simp] theorem halt_pos (s : State) : (halt s).pos = s.pos := rfl
@[simp] theorem halt_freeCount (s : State) : (halt s).freeCount = s.freeCount := rfl

/-! ### resetFields -/

@[simp] theorem resetFields_mode (s : State) : (resetFields s).mode = .cal := rfl
@[simp] theorem resetFields_halted (s : State) : (resetFields s).halted = false := rfl
@[simp] theorem resetFields_edgePending (s : State) :
    (resetFields s).edgePending = Vector.replicate 8 false := rfl
@[simp] theorem resetFields_debRemain (s : State) :
    (resetFields s).debRemain = Vector.replicate 8 0#4 := rfl
@[simp] theorem resetFields_stable (s : State) :
    (resetFields s).stable = Vector.replicate 8 false := rfl
@[simp] theorem resetFields_snapCnt (s : State) : (resetFields s).snapCnt = 0#5 := rfl
@[simp] theorem resetFields_repollCnt (s : State) : (resetFields s).repollCnt = 0#7 := rfl
@[simp] theorem resetFields_btnSnap (s : State) :
    (resetFields s).btnSnap = Vector.replicate 8 false := rfl
@[simp] theorem resetFields_convBusy (s : State) : (resetFields s).convBusy = false := rfl
@[simp] theorem resetFields_calCount (s : State) : (resetFields s).calCount = 0#5 := rfl
@[simp] theorem resetFields_calSum (s : State) :
    (resetFields s).calSum = Vector.replicate 4 0#32 := rfl
@[simp] theorem resetFields_zeroOffset (s : State) :
    (resetFields s).zeroOffset = Config.freeZeroOffset s.freeCount := rfl
@[simp] theorem resetFields_raw (s : State) :
    (resetFields s).raw = Config.freeRaw s.freeCount := rfl
@[simp] theorem resetFields_chScaled (s : State) :
    (resetFields s).chScaled = Config.freeChScaled s.freeCount := rfl
@[simp] theorem resetFields_frameValid (s : State) : (resetFields s).frameValid = false := rfl
@[simp] theorem resetFields_frame (s : State) :
    (resetFields s).frame = { btn := Config.freeFrameBtn s.freeCount, ax := Config.freeFrameAx s.freeCount } := rfl
@[simp] theorem resetFields_txBuf (s : State) :
    (resetFields s).txBuf = Config.freeTxBuf s.freeCount := rfl
@[simp] theorem resetFields_txLen (s : State) : (resetFields s).txLen = 0#6 := rfl
@[simp] theorem resetFields_txBusy (s : State) : (resetFields s).txBusy = false := rfl
@[simp] theorem resetFields_trace (s : State) : (resetFields s).trace = s.trace := rfl
@[simp] theorem resetFields_stream (s : State) : (resetFields s).stream = s.stream := rfl
@[simp] theorem resetFields_pos (s : State) : (resetFields s).pos = s.pos := rfl
@[simp] theorem resetFields_freeCount (s : State) :
    (resetFields s).freeCount = s.freeCount + 1 := rfl

/-! ### State.consume -/

@[simp] theorem State.consume_mode (rest : List Word) (s : State) :
    (s.consume rest).mode = s.mode := rfl
@[simp] theorem State.consume_halted (rest : List Word) (s : State) :
    (s.consume rest).halted = s.halted := rfl
@[simp] theorem State.consume_edgePending (rest : List Word) (s : State) :
    (s.consume rest).edgePending = s.edgePending := rfl
@[simp] theorem State.consume_debRemain (rest : List Word) (s : State) :
    (s.consume rest).debRemain = s.debRemain := rfl
@[simp] theorem State.consume_stable (rest : List Word) (s : State) :
    (s.consume rest).stable = s.stable := rfl
@[simp] theorem State.consume_snapCnt (rest : List Word) (s : State) :
    (s.consume rest).snapCnt = s.snapCnt := rfl
@[simp] theorem State.consume_repollCnt (rest : List Word) (s : State) :
    (s.consume rest).repollCnt = s.repollCnt := rfl
@[simp] theorem State.consume_btnSnap (rest : List Word) (s : State) :
    (s.consume rest).btnSnap = s.btnSnap := rfl
@[simp] theorem State.consume_convBusy (rest : List Word) (s : State) :
    (s.consume rest).convBusy = s.convBusy := rfl
@[simp] theorem State.consume_calCount (rest : List Word) (s : State) :
    (s.consume rest).calCount = s.calCount := rfl
@[simp] theorem State.consume_calSum (rest : List Word) (s : State) :
    (s.consume rest).calSum = s.calSum := rfl
@[simp] theorem State.consume_zeroOffset (rest : List Word) (s : State) :
    (s.consume rest).zeroOffset = s.zeroOffset := rfl
@[simp] theorem State.consume_raw (rest : List Word) (s : State) :
    (s.consume rest).raw = s.raw := rfl
@[simp] theorem State.consume_chScaled (rest : List Word) (s : State) :
    (s.consume rest).chScaled = s.chScaled := rfl
@[simp] theorem State.consume_frameValid (rest : List Word) (s : State) :
    (s.consume rest).frameValid = s.frameValid := rfl
@[simp] theorem State.consume_frame (rest : List Word) (s : State) :
    (s.consume rest).frame = s.frame := rfl
@[simp] theorem State.consume_txBuf (rest : List Word) (s : State) :
    (s.consume rest).txBuf = s.txBuf := rfl
@[simp] theorem State.consume_txLen (rest : List Word) (s : State) :
    (s.consume rest).txLen = s.txLen := rfl
@[simp] theorem State.consume_txBusy (rest : List Word) (s : State) :
    (s.consume rest).txBusy = s.txBusy := rfl
@[simp] theorem State.consume_trace (rest : List Word) (s : State) :
    (s.consume rest).trace = s.trace := rfl
@[simp] theorem State.consume_stream (rest : List Word) (s : State) :
    (s.consume rest).stream = rest := rfl
@[simp] theorem State.consume_pos (rest : List Word) (s : State) :
    (s.consume rest).pos = s.pos + (s.stream.length - rest.length) := rfl
@[simp] theorem State.consume_freeCount (rest : List Word) (s : State) :
    (s.consume rest).freeCount = s.freeCount := rfl

/-! ### putRecord -/

@[simp] theorem putRecord_mode (s : State) (nbits w : Nat) :
    (putRecord s nbits w).mode = s.mode := rfl
@[simp] theorem putRecord_halted (s : State) (nbits w : Nat) :
    (putRecord s nbits w).halted = s.halted := rfl
@[simp] theorem putRecord_edgePending (s : State) (nbits w : Nat) :
    (putRecord s nbits w).edgePending = s.edgePending := rfl
@[simp] theorem putRecord_debRemain (s : State) (nbits w : Nat) :
    (putRecord s nbits w).debRemain = s.debRemain := rfl
@[simp] theorem putRecord_stable (s : State) (nbits w : Nat) :
    (putRecord s nbits w).stable = s.stable := rfl
@[simp] theorem putRecord_snapCnt (s : State) (nbits w : Nat) :
    (putRecord s nbits w).snapCnt = s.snapCnt := rfl
@[simp] theorem putRecord_repollCnt (s : State) (nbits w : Nat) :
    (putRecord s nbits w).repollCnt = s.repollCnt := rfl
@[simp] theorem putRecord_btnSnap (s : State) (nbits w : Nat) :
    (putRecord s nbits w).btnSnap = s.btnSnap := rfl
@[simp] theorem putRecord_convBusy (s : State) (nbits w : Nat) :
    (putRecord s nbits w).convBusy = s.convBusy := rfl
@[simp] theorem putRecord_calCount (s : State) (nbits w : Nat) :
    (putRecord s nbits w).calCount = s.calCount := rfl
@[simp] theorem putRecord_calSum (s : State) (nbits w : Nat) :
    (putRecord s nbits w).calSum = s.calSum := rfl
@[simp] theorem putRecord_zeroOffset (s : State) (nbits w : Nat) :
    (putRecord s nbits w).zeroOffset = s.zeroOffset := rfl
@[simp] theorem putRecord_raw (s : State) (nbits w : Nat) : (putRecord s nbits w).raw = s.raw := rfl
@[simp] theorem putRecord_chScaled (s : State) (nbits w : Nat) :
    (putRecord s nbits w).chScaled = s.chScaled := rfl
@[simp] theorem putRecord_frameValid (s : State) (nbits w : Nat) :
    (putRecord s nbits w).frameValid = s.frameValid := rfl
@[simp] theorem putRecord_frame (s : State) (nbits w : Nat) :
    (putRecord s nbits w).frame = s.frame := rfl
@[simp] theorem putRecord_txBuf (s : State) (nbits w : Nat) :
    (putRecord s nbits w).txBuf = s.txBuf := rfl
@[simp] theorem putRecord_txLen (s : State) (nbits w : Nat) :
    (putRecord s nbits w).txLen = s.txLen := rfl
@[simp] theorem putRecord_txBusy (s : State) (nbits w : Nat) :
    (putRecord s nbits w).txBusy = s.txBusy := rfl
@[simp] theorem putRecord_trace (s : State) (nbits w : Nat) :
    (putRecord s nbits w).trace = s.trace := rfl
@[simp] theorem putRecord_stream (s : State) (nbits w : Nat) :
    (putRecord s nbits w).stream = tableRecord nbits w ++ s.stream := rfl
@[simp] theorem putRecord_pos (s : State) (nbits w : Nat) : (putRecord s nbits w).pos = s.pos := rfl
@[simp] theorem putRecord_freeCount (s : State) (nbits w : Nat) :
    (putRecord s nbits w).freeCount = s.freeCount := rfl

/-! ### repollStep: the fields it never writes -/

@[simp] theorem repollStep_mode (p : BitVec 8) (s : State) : (repollStep p s).mode = s.mode := by
  unfold repollStep; split <;> rfl
@[simp] theorem repollStep_halted (p : BitVec 8) (s : State) : (repollStep p s).halted = s.halted := by
  unfold repollStep; split <;> rfl
@[simp] theorem repollStep_edgePending (p : BitVec 8) (s : State) : (repollStep p s).edgePending = s.edgePending := by
  unfold repollStep; split <;> rfl
@[simp] theorem repollStep_debRemain (p : BitVec 8) (s : State) : (repollStep p s).debRemain = s.debRemain := by
  unfold repollStep; split <;> rfl
@[simp] theorem repollStep_snapCnt (p : BitVec 8) (s : State) : (repollStep p s).snapCnt = s.snapCnt := by
  unfold repollStep; split <;> rfl
@[simp] theorem repollStep_repollCnt (p : BitVec 8) (s : State) : (repollStep p s).repollCnt = s.repollCnt := by
  unfold repollStep; split <;> rfl
@[simp] theorem repollStep_btnSnap (p : BitVec 8) (s : State) : (repollStep p s).btnSnap = s.btnSnap := by
  unfold repollStep; split <;> rfl
@[simp] theorem repollStep_convBusy (p : BitVec 8) (s : State) : (repollStep p s).convBusy = s.convBusy := by
  unfold repollStep; split <;> rfl
@[simp] theorem repollStep_calCount (p : BitVec 8) (s : State) : (repollStep p s).calCount = s.calCount := by
  unfold repollStep; split <;> rfl
@[simp] theorem repollStep_calSum (p : BitVec 8) (s : State) : (repollStep p s).calSum = s.calSum := by
  unfold repollStep; split <;> rfl
@[simp] theorem repollStep_zeroOffset (p : BitVec 8) (s : State) : (repollStep p s).zeroOffset = s.zeroOffset := by
  unfold repollStep; split <;> rfl
@[simp] theorem repollStep_raw (p : BitVec 8) (s : State) : (repollStep p s).raw = s.raw := by
  unfold repollStep; split <;> rfl
@[simp] theorem repollStep_chScaled (p : BitVec 8) (s : State) : (repollStep p s).chScaled = s.chScaled := by
  unfold repollStep; split <;> rfl
@[simp] theorem repollStep_frameValid (p : BitVec 8) (s : State) : (repollStep p s).frameValid = s.frameValid := by
  unfold repollStep; split <;> rfl
@[simp] theorem repollStep_frame (p : BitVec 8) (s : State) : (repollStep p s).frame = s.frame := by
  unfold repollStep; split <;> rfl
@[simp] theorem repollStep_txBuf (p : BitVec 8) (s : State) : (repollStep p s).txBuf = s.txBuf := by
  unfold repollStep; split <;> rfl
@[simp] theorem repollStep_txLen (p : BitVec 8) (s : State) : (repollStep p s).txLen = s.txLen := by
  unfold repollStep; split <;> rfl
@[simp] theorem repollStep_txBusy (p : BitVec 8) (s : State) : (repollStep p s).txBusy = s.txBusy := by
  unfold repollStep; split <;> rfl
@[simp] theorem repollStep_trace (p : BitVec 8) (s : State) : (repollStep p s).trace = s.trace := by
  unfold repollStep; split <;> rfl
@[simp] theorem repollStep_stream (p : BitVec 8) (s : State) : (repollStep p s).stream = s.stream := by
  unfold repollStep; split <;> rfl
@[simp] theorem repollStep_pos (p : BitVec 8) (s : State) : (repollStep p s).pos = s.pos := by
  unfold repollStep; split <;> rfl
@[simp] theorem repollStep_freeCount (p : BitVec 8) (s : State) : (repollStep p s).freeCount = s.freeCount := by
  unfold repollStep; split <;> rfl

/-! ### boundaryStep: the fields it never writes -/

@[simp] theorem boundaryStep_mode (s : State) : (boundaryStep s).mode = s.mode := by
  unfold boundaryStep; split <;> rfl
@[simp] theorem boundaryStep_halted (s : State) : (boundaryStep s).halted = s.halted := by
  unfold boundaryStep; split <;> rfl
@[simp] theorem boundaryStep_edgePending (s : State) : (boundaryStep s).edgePending = s.edgePending := by
  unfold boundaryStep; split <;> rfl
@[simp] theorem boundaryStep_debRemain (s : State) : (boundaryStep s).debRemain = s.debRemain := by
  unfold boundaryStep; split <;> rfl
@[simp] theorem boundaryStep_stable (s : State) : (boundaryStep s).stable = s.stable := by
  unfold boundaryStep; split <;> rfl
@[simp] theorem boundaryStep_snapCnt (s : State) : (boundaryStep s).snapCnt = s.snapCnt := by
  unfold boundaryStep; split <;> rfl
@[simp] theorem boundaryStep_repollCnt (s : State) : (boundaryStep s).repollCnt = s.repollCnt := by
  unfold boundaryStep; split <;> rfl
@[simp] theorem boundaryStep_calCount (s : State) : (boundaryStep s).calCount = s.calCount := by
  unfold boundaryStep; split <;> rfl
@[simp] theorem boundaryStep_calSum (s : State) : (boundaryStep s).calSum = s.calSum := by
  unfold boundaryStep; split <;> rfl
@[simp] theorem boundaryStep_zeroOffset (s : State) : (boundaryStep s).zeroOffset = s.zeroOffset := by
  unfold boundaryStep; split <;> rfl
@[simp] theorem boundaryStep_raw (s : State) : (boundaryStep s).raw = s.raw := by
  unfold boundaryStep; split <;> rfl
@[simp] theorem boundaryStep_chScaled (s : State) : (boundaryStep s).chScaled = s.chScaled := by
  unfold boundaryStep; split <;> rfl
@[simp] theorem boundaryStep_frameValid (s : State) : (boundaryStep s).frameValid = s.frameValid := by
  unfold boundaryStep; split <;> rfl
@[simp] theorem boundaryStep_frame (s : State) : (boundaryStep s).frame = s.frame := by
  unfold boundaryStep; split <;> rfl
@[simp] theorem boundaryStep_txBuf (s : State) : (boundaryStep s).txBuf = s.txBuf := by
  unfold boundaryStep; split <;> rfl
@[simp] theorem boundaryStep_txLen (s : State) : (boundaryStep s).txLen = s.txLen := by
  unfold boundaryStep; split <;> rfl
@[simp] theorem boundaryStep_txBusy (s : State) : (boundaryStep s).txBusy = s.txBusy := by
  unfold boundaryStep; split <;> rfl
@[simp] theorem boundaryStep_stream (s : State) : (boundaryStep s).stream = s.stream := by
  unfold boundaryStep; split <;> rfl
@[simp] theorem boundaryStep_pos (s : State) : (boundaryStep s).pos = s.pos := by
  unfold boundaryStep; split <;> rfl
@[simp] theorem boundaryStep_freeCount (s : State) : (boundaryStep s).freeCount = s.freeCount := by
  unfold boundaryStep; split <;> rfl

/-! ### handoff: the fields it never writes -/

@[simp] theorem handoff_mode (s : State) : (handoff s).mode = s.mode := by
  unfold handoff; split <;> simp
@[simp] theorem handoff_halted (s : State) : (handoff s).halted = s.halted := by
  unfold handoff; split <;> simp
@[simp] theorem handoff_edgePending (s : State) : (handoff s).edgePending = s.edgePending := by
  unfold handoff; split <;> simp
@[simp] theorem handoff_debRemain (s : State) : (handoff s).debRemain = s.debRemain := by
  unfold handoff; split <;> simp
@[simp] theorem handoff_stable (s : State) : (handoff s).stable = s.stable := by
  unfold handoff; split <;> simp
@[simp] theorem handoff_snapCnt (s : State) : (handoff s).snapCnt = s.snapCnt := by
  unfold handoff; split <;> simp
@[simp] theorem handoff_repollCnt (s : State) : (handoff s).repollCnt = s.repollCnt := by
  unfold handoff; split <;> simp
@[simp] theorem handoff_btnSnap (s : State) : (handoff s).btnSnap = s.btnSnap := by
  unfold handoff; split <;> simp
@[simp] theorem handoff_convBusy (s : State) : (handoff s).convBusy = s.convBusy := by
  unfold handoff; split <;> simp
@[simp] theorem handoff_calCount (s : State) : (handoff s).calCount = s.calCount := by
  unfold handoff; split <;> simp
@[simp] theorem handoff_calSum (s : State) : (handoff s).calSum = s.calSum := by
  unfold handoff; split <;> simp
@[simp] theorem handoff_zeroOffset (s : State) : (handoff s).zeroOffset = s.zeroOffset := by
  unfold handoff; split <;> simp
@[simp] theorem handoff_raw (s : State) : (handoff s).raw = s.raw := by
  unfold handoff; split <;> simp
@[simp] theorem handoff_chScaled (s : State) : (handoff s).chScaled = s.chScaled := by
  unfold handoff; split <;> simp
@[simp] theorem handoff_frameValid (s : State) : (handoff s).frameValid = s.frameValid := by
  unfold handoff; split <;> simp
@[simp] theorem handoff_frame (s : State) : (handoff s).frame = s.frame := by
  unfold handoff; split <;> simp
@[simp] theorem handoff_stream (s : State) : (handoff s).stream = s.stream := by
  unfold handoff; split <;> simp
@[simp] theorem handoff_pos (s : State) : (handoff s).pos = s.pos := by
  unfold handoff; split <;> simp

/-! ### calAccumulate: the fields it never writes -/

@[simp] theorem calAccumulate_halted (c : Config) (r : PerChannel (BitVec 16)) (s : State) : (calAccumulate c r s).halted = s.halted := by
  unfold calAccumulate; split <;> rfl
@[simp] theorem calAccumulate_edgePending (c : Config) (r : PerChannel (BitVec 16)) (s : State) : (calAccumulate c r s).edgePending = s.edgePending := by
  unfold calAccumulate; split <;> rfl
@[simp] theorem calAccumulate_debRemain (c : Config) (r : PerChannel (BitVec 16)) (s : State) : (calAccumulate c r s).debRemain = s.debRemain := by
  unfold calAccumulate; split <;> rfl
@[simp] theorem calAccumulate_stable (c : Config) (r : PerChannel (BitVec 16)) (s : State) : (calAccumulate c r s).stable = s.stable := by
  unfold calAccumulate; split <;> rfl
@[simp] theorem calAccumulate_btnSnap (c : Config) (r : PerChannel (BitVec 16)) (s : State) : (calAccumulate c r s).btnSnap = s.btnSnap := by
  unfold calAccumulate; split <;> rfl
@[simp] theorem calAccumulate_convBusy (c : Config) (r : PerChannel (BitVec 16)) (s : State) : (calAccumulate c r s).convBusy = s.convBusy := by
  unfold calAccumulate; split <;> rfl
@[simp] theorem calAccumulate_raw (c : Config) (r : PerChannel (BitVec 16)) (s : State) : (calAccumulate c r s).raw = s.raw := by
  unfold calAccumulate; split <;> rfl
@[simp] theorem calAccumulate_chScaled (c : Config) (r : PerChannel (BitVec 16)) (s : State) : (calAccumulate c r s).chScaled = s.chScaled := by
  unfold calAccumulate; split <;> rfl
@[simp] theorem calAccumulate_frameValid (c : Config) (r : PerChannel (BitVec 16)) (s : State) : (calAccumulate c r s).frameValid = s.frameValid := by
  unfold calAccumulate; split <;> rfl
@[simp] theorem calAccumulate_frame (c : Config) (r : PerChannel (BitVec 16)) (s : State) : (calAccumulate c r s).frame = s.frame := by
  unfold calAccumulate; split <;> rfl
@[simp] theorem calAccumulate_txBuf (c : Config) (r : PerChannel (BitVec 16)) (s : State) : (calAccumulate c r s).txBuf = s.txBuf := by
  unfold calAccumulate; split <;> rfl
@[simp] theorem calAccumulate_txLen (c : Config) (r : PerChannel (BitVec 16)) (s : State) : (calAccumulate c r s).txLen = s.txLen := by
  unfold calAccumulate; split <;> rfl
@[simp] theorem calAccumulate_txBusy (c : Config) (r : PerChannel (BitVec 16)) (s : State) : (calAccumulate c r s).txBusy = s.txBusy := by
  unfold calAccumulate; split <;> rfl
@[simp] theorem calAccumulate_trace (c : Config) (r : PerChannel (BitVec 16)) (s : State) : (calAccumulate c r s).trace = s.trace := by
  unfold calAccumulate; split <;> rfl
@[simp] theorem calAccumulate_stream (c : Config) (r : PerChannel (BitVec 16)) (s : State) : (calAccumulate c r s).stream = s.stream := by
  unfold calAccumulate; split <;> rfl
@[simp] theorem calAccumulate_pos (c : Config) (r : PerChannel (BitVec 16)) (s : State) : (calAccumulate c r s).pos = s.pos := by
  unfold calAccumulate; split <;> rfl

end Sys2Proof.Machine
end

