-- ==== Sys2Proof/Laws/Ops.lean ====
section
/-! SUPPORT. What each shared operation and each event's meaning can do, said once, for proofs to cite instead of unfolding it. -/

namespace Sys2Proof.Machine

/-! ### The configuration -/

@[simp] theorem jic_debTicks : Config.jic.debTicks = 15 := rfl
@[simp] theorem jic_repollPeriod : Config.jic.repollPeriod = 100 := rfl
@[simp] theorem jic_snapPeriod : Config.jic.snapPeriod = 20 := rfl
@[simp] theorem jic_calSamples : Config.jic.calSamples = 20 := rfl
@[simp] theorem jic_scaleNum : Config.jic.scaleNum = 100 := rfl
@[simp] theorem jic_scaleDen : Config.jic.scaleDen = 2048 := rfl
@[simp] theorem jic_dzThresh : Config.jic.dzThresh = 7 := rfl

/-! ### The conditions -/

theorem tickEnabled_iff (s : State) : s.tickEnabled = true ↔ s.mode = .run ∧ s.halted = false := by
  simp [State.tickEnabled]

theorem calEnabled_iff (s : State) : s.calEnabled = true ↔ s.mode = .cal ∧ s.halted = false := by
  simp [State.calEnabled]

theorem convEnabled_iff (s : State) :
    s.convEnabled = true ↔ s.mode = .run ∧ s.convBusy = true ∧ s.halted = false := by
  simp [State.convEnabled, and_assoc]

theorem atBoundary_iff (s : State) : s.atBoundary = true ↔ s.snapCnt = 0#5 := by
  simp [State.atBoundary]

theorem atRepoll_iff (s : State) : s.atRepoll = true ↔ s.repollCnt = 0#7 := by
  simp [State.atRepoll]

theorem calComplete_iff (c : Config) (s : State) :
    s.calComplete c = true ↔ s.calCount.toNat = c.calSamples := by
  simp [State.calComplete]

theorem nextCount_lt {period : Nat} (h : 0 < period) (cnt : Nat) : nextCount cnt period < period :=
  Nat.mod_lt _ h

/-! ### One channel of a tick -/

theorem countDown_zero (stable level : Bool) : countDown 0#4 stable level = (0#4, stable) := rfl

/-- A count that does not reach 0 leaves the stable state; one that does resolves it. -/
theorem countDown_pos {remain : BitVec 4} (h : remain ≠ 0#4) (stable level : Bool) :
    countDown remain stable level = (remain - 1#4, if remain - 1#4 = 0#4 then level else stable) := by
  simp [countDown, h]

theorem armWindow_pending (c : Config) (remain : BitVec 4) :
    armWindow c true remain = BitVec.ofNat 4 c.debTicks := rfl

theorem armWindow_idle (c : Config) (remain : BitVec 4) : armWindow c false remain = remain := rfl

/-- The re-poll's guard on disagreement does not show: it writes the value that is there. -/
theorem repollChannel_eq (remain : BitVec 4) (stable level : Bool) :
    repollChannel remain stable level = if remain = 0#4 then level else stable := by
  unfold repollChannel
  by_cases h : remain = 0#4 <;> by_cases h' : stable = level <;> simp_all

/-! ### The steps of a tick -/

theorem debounceStep_debRemain_get (c : Config) (p : BitVec 8) (s : State) (i : Fin 8) :
    (debounceStep c p s).debRemain[i] =
      (debounceChannel c s.edgePending[i] s.debRemain[i] s.stable[i] (pressed p i)).1 := by
  simp

theorem debounceStep_stable_get (c : Config) (p : BitVec 8) (s : State) (i : Fin 8) :
    (debounceStep c p s).stable[i] =
      (debounceChannel c s.edgePending[i] s.debRemain[i] s.stable[i] (pressed p i)).2 := by
  simp

theorem repollStep_stable_get (p : BitVec 8) (s : State) (i : Fin 8) :
    (repollStep p s).stable[i] =
      if s.repollCnt = 0#7 ∧ s.debRemain[i] = 0#4 then pressed p i else s.stable[i] := by
  unfold repollStep
  by_cases h : s.atRepoll = true
  · have h' := (atRepoll_iff s).1 h
    simp [h, h', repollChannel_eq]
  · have h' := mt (atRepoll_iff s).2 h
    rw [if_neg h, if_neg fun hc => h' hc.1]

/-- Everything the boundary can do: nothing, or a snapshot, a request and a pulse. -/
theorem boundaryStep_cases (s : State) :
    (s.snapCnt ≠ 0#5 ∧ boundaryStep s = s) ∨
    (s.snapCnt = 0#5 ∧
      boundaryStep s = { s with btnSnap := s.stable, convBusy := true,
                                trace := s.trace ++ [.convStart] }) := by
  unfold boundaryStep
  by_cases h : s.atBoundary = true
  · exact .inr ⟨(atBoundary_iff s).1 h, by simp [h]; rfl⟩
  · exact .inl ⟨mt (atBoundary_iff s).2 h, by simp [h]⟩

/-! ### A whole tick -/

section
variable (c : Config) (p : BitVec 8) (s : State)

@[simp] theorem tickStep_edgePending : (tickStep c p s).edgePending = Vector.replicate 8 false := by
  simp [tickStep]

@[simp] theorem tickStep_snapCnt :
    (tickStep c p s).snapCnt = BitVec.ofNat 5 (nextCount s.snapCnt.toNat c.snapPeriod) := by
  simp [tickStep]

@[simp] theorem tickStep_repollCnt :
    (tickStep c p s).repollCnt = BitVec.ofNat 7 (nextCount s.repollCnt.toNat c.repollPeriod) := by
  simp [tickStep]

/-- A channel's count after a whole tick: the re-poll and the boundary do not touch it. -/
theorem tickStep_debRemain_get (i : Fin 8) :
    (tickStep c p s).debRemain[i] =
      (debounceChannel c s.edgePending[i] s.debRemain[i] s.stable[i] (pressed p i)).1 := by
  simp [tickStep]

/-- A channel's stable state after a whole tick: step 2, then the re-poll of an idle channel. -/
theorem tickStep_stable_get (i : Fin 8) :
    (tickStep c p s).stable[i] =
      if BitVec.ofNat 7 (nextCount s.repollCnt.toNat c.repollPeriod) = 0#7 ∧
          (debounceChannel c s.edgePending[i] s.debRemain[i] s.stable[i] (pressed p i)).1 = 0#4
      then pressed p i
      else (debounceChannel c s.edgePending[i] s.debRemain[i] s.stable[i] (pressed p i)).2 := by
  unfold tickStep
  rw [boundaryStep_stable, repollStep_stable_get]
  simp

/-- What the boundary of a whole tick does to the snapshot, the request and the trace. -/
theorem tickStep_boundary :
    (BitVec.ofNat 5 (nextCount s.snapCnt.toNat c.snapPeriod) ≠ 0#5 ∧
      (tickStep c p s).btnSnap = s.btnSnap ∧ (tickStep c p s).convBusy = s.convBusy ∧
      (tickStep c p s).trace = s.trace) ∨
    (BitVec.ofNat 5 (nextCount s.snapCnt.toNat c.snapPeriod) = 0#5 ∧
      (tickStep c p s).btnSnap = (tickStep c p s).stable ∧ (tickStep c p s).convBusy = true ∧
      (tickStep c p s).trace = s.trace ++ [.convStart]) := by
  unfold tickStep
  rcases boundaryStep_cases (repollStep p (advanceCounters c (debounceStep c p s))) with
    ⟨h0, h⟩ | ⟨h0, h⟩
  · exact .inl ⟨by simpa using h0, by simp [h], by simp [h], by simp [h]⟩
  · exact .inr ⟨by simpa using h0, by simp [h], by simp [h], by simp [h]⟩

/-- A whole tick writes the eight fields of 10_state.md R40's TICK row and no other. -/
theorem tickStep_frame :
    tickStep c p s =
      { s with edgePending := (tickStep c p s).edgePending, debRemain := (tickStep c p s).debRemain,
               stable := (tickStep c p s).stable, snapCnt := (tickStep c p s).snapCnt,
               repollCnt := (tickStep c p s).repollCnt, btnSnap := (tickStep c p s).btnSnap,
               convBusy := (tickStep c p s).convBusy, trace := (tickStep c p s).trace } := by
  apply State.ext <;> simp [tickStep]

end

/-! ### The steps of a completion -/

/-- Everything a calibration reading can do: add up, or add up and end the calibration. -/
theorem calAccumulate_cases (c : Config) (r : PerChannel (BitVec 16)) (s : State) :
    ((s.calCount + 1#5).toNat ≠ c.calSamples ∧ calAccumulate c r s = addReading r s) ∨
    ((s.calCount + 1#5).toNat = c.calSamples ∧ calAccumulate c r s = calEnd c (addReading r s)) := by
  unfold calAccumulate
  by_cases h : (addReading r s).calComplete c = true
  · exact .inr ⟨by simpa using (calComplete_iff c _).1 h, by simp [h]⟩
  · exact .inl ⟨by simpa using mt (calComplete_iff c _).2 h, by simp [h]⟩

/-- Everything the hand-off can do: nothing to a busy transport, or a packet to an idle one. -/
theorem handoff_cases (s : State) :
    (s.txBusy = true ∧ handoff s = s) ∨ (s.txBusy = false ∧ handoff s = sendPacket s) := by
  unfold handoff
  by_cases h : s.txBusy = true
  · exact .inl ⟨h, by simp [h]⟩
  · exact .inr ⟨by simpa using h, by simp [h]⟩

theorem packetBuffer_get {b : List Byte} {k : Nat} (hk : k < b.length) (h37 : k < 37)
    (free : TxBytes) : (packetBuffer b free)[k] = b[k] := by
  simp [packetBuffer, List.getD_eq_getElem?_getD, hk]

theorem axisVector_get (c : Config) (scaled : PerChannel (BitVec 16)) (k : Fin 4) :
    (axisVector c scaled)[k] =
      BitVec.ofInt 16 (applySign c.axisMap.sgn[k] scaled[c.axisMap.src[k]].toInt) := by
  simp [axisVector]

/-- Everything a consumed conversion can do, to a busy transport and to an idle one. -/
theorem conversionStep_cases (c : Config) (r : PerChannel (BitVec 16)) (s : State) :
    (s.txBusy = true ∧ conversionStep c r s = commit c (consumeRequest (scaleStep c r s))) ∨
    (s.txBusy = false ∧
      conversionStep c r s = sendPacket (commit c (consumeRequest (scaleStep c r s)))) :=
  handoff_cases (commit c (consumeRequest (scaleStep c r s)))

section
variable (c : Config) (r : PerChannel (BitVec 16)) (s : State)

@[simp] theorem conversionStep_raw : (conversionStep c r s).raw = r := by simp [conversionStep]

@[simp] theorem conversionStep_chScaled :
    (conversionStep c r s).chScaled = Vector.ofFn fun ch : Fin 4 =>
      BitVec.ofInt 16 (scaledValue c r[ch] s.zeroOffset[ch]) := by
  simp [conversionStep]

@[simp] theorem conversionStep_convBusy : (conversionStep c r s).convBusy = false := by
  simp [conversionStep]

@[simp] theorem conversionStep_frame :
    (conversionStep c r s).frame =
      { btn := s.btnSnap, ax := axisVector c (conversionStep c r s).chScaled } := by
  simp [conversionStep]

@[simp] theorem conversionStep_frameValid : (conversionStep c r s).frameValid = true := by
  simp [conversionStep]

@[simp] theorem conversionStep_txBusy : (conversionStep c r s).txBusy = true := by
  rcases conversionStep_cases c r s with ⟨h, h'⟩ | ⟨h, h'⟩ <;> rw [h'] <;> simp [h]

end

/-! ### The events: what a next state can be -/

theorem execEdge_next {ch : Fin 8} {s t : State} (h : execEdge ch s = .next t) :
    (s.halted = true ∧ t = s) ∨ (s.halted = false ∧ t = latchEdge ch s) := by
  unfold execEdge at h
  by_cases hs : s.halted = true <;> simp [hs] at h <;> simp_all

theorem execTick_next {p : BitVec 8} {s t : State} (h : execTick p s = .next t) :
    (¬ (s.mode = .run ∧ s.halted = false) ∧ t = s) ∨
    (s.mode = .run ∧ s.halted = false ∧ t = tickStep Config.jic p s) := by
  unfold execTick at h
  by_cases hs : s.tickEnabled = true
  · have hs' := (tickEnabled_iff s).1 hs
    simp only [hs, if_true, Host.Outcome.next.injEq] at h
    exact .inr ⟨hs'.1, hs'.2, h.symm⟩
  · exact .inl ⟨mt (tickEnabled_iff s).2 hs, by simpa [hs] using h.symm⟩

theorem execConvDone_next {r0 r1 r2 r3 : BitVec 16} {s t : State}
    (h : execConvDone r0 r1 r2 r3 s = .next t) :
    (s.halted = true ∧ t = s) ∨
    (s.mode = .cal ∧ s.halted = false ∧
      t = calAccumulate Config.jic (samples r0 r1 r2 r3) s) ∨
    (s.mode = .run ∧ s.halted = false ∧ s.convBusy = true ∧
      t = conversionStep Config.jic (samples r0 r1 r2 r3) s) ∨
    (s.mode = .run ∧ s.halted = false ∧ s.convBusy = false ∧ t = s) := by
  unfold execConvDone at h
  rcases hm : s.mode with _ | _ <;> rcases hh : s.halted with _ | _ <;>
    rcases hb : s.convBusy with _ | _ <;>
    simp_all [State.calEnabled, State.convEnabled]

theorem execTxDone_next {s t : State} (h : execTxDone s = .next t) :
    (s.halted = true ∧ t = s) ∨ (s.halted = false ∧ t = releaseBuffer s) := by
  unfold execTxDone at h
  by_cases hs : s.halted = true <;> simp [hs] at h <;> simp_all

theorem execPlatformFault_next {s t : State} (h : execPlatformFault s = .next t) :
    (s.halted = true ∧ t = s) ∨ (s.halted = false ∧ t = halt s) := by
  unfold execPlatformFault at h
  by_cases hs : s.halted = true <;> simp [hs] at h <;> simp_all

theorem execReset_next {s t : State} (h : execReset s = .next t) : t = resetFields s := by
  simpa [execReset] using h.symm

/-! ### Sequences of events -/

theorem runEvents_nil (s : State) : runEvents [] s = .next s := rfl

theorem runEvents_cons_next {i : Instr} {is : List Instr} {s t : State}
    (h : runEvents (i :: is) s = .next t) :
    ∃ s', exec i s = .next s' ∧ runEvents is s' = .next t := by
  simp only [runEvents] at h
  split at h
  · exact ⟨_, ‹_›, h⟩
  · cases h
  · cases h

theorem runEvents_cons {i : Instr} {is : List Instr} {s s' : State} (h : exec i s = .next s') :
    runEvents (i :: is) s = runEvents is s' := by
  simp [runEvents, h]

/-! ### Fetching -/

theorem decodeRecord_error {w : Word} {rest : List Word} {e : DecodeError}
    (h : decodeRecord w rest = .error e) : e = .reserved w ∨ e = .illFormed w := by
  unfold decodeRecord at h
  split_ifs at h <;> try (cases h; simp)
  all_goals
    split at h <;> first | (cases h; simp) | cases h

theorem fetch_event_iff {s s' : State} {i : Instr} :
    fetch s = .event i s' ↔ ∃ rest, decode s.stream = .ok (i, rest) ∧ s' = s.consume rest := by
  unfold fetch
  constructor
  · intro h
    split at h
    · rename_i j rest hd
      simp only [Fetched.event.injEq] at h
      exact ⟨rest, by rw [hd, h.1], h.2.symm⟩
    · split at h <;> cases h
  · rintro ⟨rest, hd, rfl⟩
    simp [hd]

theorem step_event {s s' : State} {i : Instr} (h : fetch s = .event i s') : step s = exec i s' := by
  simp [step, h]

/-- Everything a step that answers a next state can be: an event taken, or nothing presented. -/
theorem step_next {s t : State} (h : step s = .next t) :
    (∃ i s', fetch s = .event i s' ∧ exec i s' = .next t) ∨ (fetch s = .idle ∧ t = s) := by
  unfold step at h
  split at h
  · exact .inl ⟨_, _, ‹_›, h⟩
  · exact .inr ⟨‹_›, by simpa using h.symm⟩
  · cases h

end Sys2Proof.Machine
end

