-- ==== Sys2Proof/Laws/PerInstr.lean ====
section
/-! SUPPORT. Statements about every instruction as syntax, one lemma per constructor (LAWS.json). -/

namespace Sys2Proof.Laws

/-- An event's record is its event word and as many payload words as its `code` asks for
(30_encoding.md R56). -/
def RecordLength.Statement (i : Instr) : Prop :=
  ∃ w ws, encode i = w :: ws ∧ ws.length = payloadWords w

theorem RecordLength.edge (ch : Fin 8) : RecordLength.Statement (.edge ch) := by
  refine ⟨_, _, rfl, ?_⟩
  revert ch; decide

theorem RecordLength.tick (p : BitVec 8) : RecordLength.Statement (.tick p) := by
  refine ⟨_, _, rfl, ?_⟩
  have h : codeField (BitVec.ofNat 16 (0x2000 + p.toNat)) = 0x2#4 := by
    have := p.isLt
    apply BitVec.eq_of_toNat_eq
    simp only [codeField, BitVec.extractLsb'_toNat, BitVec.toNat_ofNat, Nat.shiftRight_eq_div_pow]
    omega
  simp [payloadWords, h]

theorem RecordLength.convDone (r0 r1 r2 r3 : BitVec 16) :
    RecordLength.Statement (.convDone r0 r1 r2 r3) :=
  ⟨_, _, rfl, rfl⟩

theorem RecordLength.txDone : RecordLength.Statement .txDone := ⟨_, _, rfl, rfl⟩

theorem RecordLength.platformFault : RecordLength.Statement .platformFault := ⟨_, _, rfl, rfl⟩

theorem RecordLength.reset : RecordLength.Statement .reset := ⟨_, _, rfl, rfl⟩

/-- The `code` of an event (R57 to R61). -/
def assignedCode : Instr → BitVec 4
  | .edge _ => 0x1#4
  | .tick _ => 0x2#4
  | .convDone _ _ _ _ => 0x3#4
  | .txDone => 0x4#4
  | .platformFault => 0x5#4
  | .reset => 0xF#4

/-- An event's first word carries the code its rule assigns, which is none of R62's reserved
codes. -/
def AssignedCode.Statement (i : Instr) : Prop :=
  (encode i).head?.map codeField = some (assignedCode i)

theorem AssignedCode.edge (ch : Fin 8) : AssignedCode.Statement (.edge ch) := by
  revert ch; unfold AssignedCode.Statement; decide

theorem AssignedCode.tick (p : BitVec 8) : AssignedCode.Statement (.tick p) := by
  have := p.isLt
  simp only [AssignedCode.Statement, encode, List.head?_cons, Option.map_some, assignedCode,
    Option.some.injEq]
  apply BitVec.eq_of_toNat_eq
  simp only [codeField, BitVec.extractLsb'_toNat, BitVec.toNat_ofNat, Nat.shiftRight_eq_div_pow]
  omega

theorem AssignedCode.convDone (r0 r1 r2 r3 : BitVec 16) :
    AssignedCode.Statement (.convDone r0 r1 r2 r3) := rfl

theorem AssignedCode.txDone : AssignedCode.Statement .txDone := rfl

theorem AssignedCode.platformFault : AssignedCode.Statement .platformFault := rfl

theorem AssignedCode.reset : AssignedCode.Statement .reset := rfl

end Sys2Proof.Laws
end

