-- ==== Sys2Proof/Tests/Slice0.lean ====
section
/-! SUPPORT. Tests whose expected results are the spec's own vectors (spec/95_test_vectors.md) or hand work from its rules, the smoke tests of the checks, and one witness for each obligation that has hypotheses. -/

namespace Sys2Proof.Tests

open Sys2Proof.Machine

/-! ### States -/

/-- The state an outcome answers, if it answers one. -/
def after : Host.Outcome State Fault Refusal → Option State
  | .next s => some s
  | .fault _ => none
  | .refused _ => none

/-- RUN0 of 95_test_vectors.md section 0. -/
def run0 : State :=
  { State.reset with mode := .run, calCount := 20#5, zeroOffset := Vector.replicate 4 2048#16 }

/-- RUN0 with `SNAP_CNT` = 19 and `REPOLL_CNT` = 99: the next tick is a re-poll and a boundary. -/
def run99 : State := { run0 with snapCnt := 19#5, repollCnt := 99#7 }

/-- RUN0 with `CONV_BUSY` = 1. -/
def busy0 : State := { run0 with convBusy := true }

/-- RUN0 with a packet that the transport owns: the all-zero packet of 95_test_vectors.md, S4. -/
def owned0 : State :=
  { run0 with
    txBusy := true, frameValid := true, txLen := 21#6
    chScaled := Vector.replicate 4 0#16
    txBuf := Vector.ofFn fun k : Fin 37 =>
      ([0x42#8, 0x3A#8, 0x30#8, 0x30#8, 0x30#8, 0x30#8, 0x30#8, 0x30#8, 0x30#8, 0x30#8, 0x2C#8, 0x41#8,
        0x3A#8, 0x30#8, 0x2C#8, 0x30#8, 0x2C#8, 0x30#8, 0x2C#8, 0x30#8, 0x0A#8] : List Byte).getD k 0#8 }

/-- RUN0 while halted. -/
def halted0 : State := { run0 with halted := true }

/-- Calibration with one reading to come and the sums at their bound. -/
def cal19 : State :=
  { State.reset with calCount := 19#5, calSum := Vector.replicate 4 (BitVec.ofNat 32 (19 * 65535)) }

/-- RUN0 with channel 3's latch set. -/
def pending3 : State :=
  { run0 with edgePending := #v[false, false, false, true, false, false, false, false] }

/-- RUN0 with `DEB_REMAIN[3]` = n. -/
def counting3 (n : Nat) : State :=
  { run0 with debRemain := #v[0#4, 0#4, 0#4, BitVec.ofNat 4 n, 0#4, 0#4, 0#4, 0#4] }

/-- The test configuration of 95_test_vectors.md: `AXIS_MAP` = IDENTITY. -/
def identityConfig : Config := { Config.jic with axisMap := AxisMap.identity }

/-- The configuration of vector S3. -/
def swappedConfig : Config :=
  { Config.jic with axisMap := { src := #v[1, 0, 3, 2], sgn := #v[.minus, .plus, .plus, .minus] } }

/-! ### Decoding: words written out from R57 to R61, and the table of 95_test_vectors.md -/

theorem test_decode_reset : decode [0b1111000000000000#16] = .ok (.reset, []) := rfl
theorem test_decode_edge : decode [0b0001000000000111#16] = .ok (.edge 7, []) := rfl
theorem test_decode_tick : decode [0b0010000010100101#16] = .ok (.tick 0b10100101#8, []) := rfl
theorem test_decode_conv :
    decode [0b0011000000000000#16, 0x0800#16, 0x09F4#16, 0x0000#16, 0xFFFF#16] =
      .ok (.convDone 2048#16 2548#16 0#16 65535#16, []) := rfl
theorem test_decode_txdone : decode [0b0100000000000000#16] = .ok (.txDone, []) := rfl
theorem test_decode_fault : decode [0b0101000000000000#16] = .ok (.platformFault, []) := rfl

theorem test_decode_reserved :
    decode [0x0000#16] = .error (.reserved 0x0000#16) ∧
    decode [0x6000#16] = .error (.reserved 0x6000#16) ∧
    decode [0xA123#16] = .error (.reserved 0xA123#16) ∧
    decode [0xE000#16] = .error (.reserved 0xE000#16) := ⟨rfl, rfl, rfl, rfl⟩

theorem test_decode_ill_formed :
    decode [0x1008#16] = .error (.illFormed 0x1008#16) ∧
    decode [0x2100#16] = .error (.illFormed 0x2100#16) ∧
    decode [0x3001#16, 0#16, 0#16, 0#16, 0#16] = .error (.illFormed 0x3001#16) ∧
    decode [0x3000#16, 0x0800#16, 0x0800#16] = .error (.illFormed 0x3000#16) ∧
    decode [0xF001#16] = .error (.illFormed 0xF001#16) ∧
    decode [0x4010#16] = .error (.illFormed 0x4010#16) ∧
    decode [0x5800#16] = .error (.illFormed 0x5800#16) := ⟨rfl, rfl, rfl, rfl, rfl, rfl, rfl⟩

/-- R63: bytes are most significant first; a byte left over is no word. -/
theorem test_decode_bytes :
    decodeBytes [0x10#8, 0x02#8] = .ok (.edge 2, []) ∧
    decodeBytes [0x10#8] = .error (.oddByte 0x10#8) := ⟨rfl, rfl⟩

theorem test_decode_stream :
    decodeStream 3 0 [0xF000#16, 0x1002#16, 0x0000#16] =
      ([.reset, .edge 2], some (.reserved 0#16, 2)) := rfl

theorem test_table_word :
    decodeTableWord 16 0x1005 = some (.edge 5) ∧
    decodeTableWord 16 0x3000 = some (.convDone 0#16 0#16 0#16 0#16) ∧
    decodeTableWord 16 0x1008 = none := by decide

/-! ### The checks refuse ill-formed terms (00_scope.md R8, R9) -/

theorem smoke_constraints :
    ({ Config.jic with debTicks := 0 } : Config).meetsConstraints = false ∧
    ({ Config.jic with snapPeriod := 0 } : Config).meetsConstraints = false ∧
    ({ Config.jic with repollPeriod := 0 } : Config).meetsConstraints = false ∧
    ({ Config.jic with calSamples := 0 } : Config).meetsConstraints = false ∧
    ({ Config.jic with scaleDen := 0 } : Config).meetsConstraints = false ∧
    ({ Config.jic with axisMap := { AxisMap.identity with src := #v[0, 1, 2, 2] } } :
      Config).meetsConstraints = false := by decide

theorem smoke_widths :
    ({ Config.jic with nBtn := 9 } : Config).fitsWidths = false ∧
    ({ Config.jic with nAx := 5 } : Config).fitsWidths = false ∧
    ({ Config.jic with debTicks := 16 } : Config).fitsWidths = false ∧
    ({ Config.jic with snapPeriod := 33 } : Config).fitsWidths = false ∧
    ({ Config.jic with repollPeriod := 129 } : Config).fitsWidths = false ∧
    ({ Config.jic with calSamples := 32 } : Config).fitsWidths = false ∧
    ({ Config.jic with rawW := 12 } : Config).fitsWidths = false ∧
    ({ Config.jic with offW := 12 } : Config).fitsWidths = false ∧
    ({ Config.jic with scaledW := 8 } : Config).fitsWidths = false := by decide

theorem smoke_identity_is_well_formed : identityConfig.wellFormed = true := by decide

/-! ### Steps: the vectors of 95_test_vectors.md -/

/-- E1. -/
theorem test_edge_latches :
    (after (exec (.edge 2) run0)).map (·.edgePending) =
      some #v[false, false, true, false, false, false, false, false] := by decide

/-- E4. -/
theorem test_edge_halted : after (exec (.edge 1) halted0) = some halted0 := by decide

/-- T1 and T4: arm and decrement in one tick. -/
theorem test_tick_arms :
    (after (exec (.tick 0xFF#8) pending3)).map
      (fun t => (t.edgePending[3], t.debRemain[3], t.stable[3], t.snapCnt, t.repollCnt)) =
      some (false, 14#4, false, 1#5, 1#7) := by decide

/-- T5 and T6 in one: a re-poll tick at a boundary, with a window running on channel 3 and a missed
press on channel 4. -/
theorem test_tick_repolls_then_snapshots :
    (after (exec (.tick 0xE7#8)
      { run99 with debRemain := #v[0#4, 0#4, 0#4, 4#4, 0#4, 0#4, 0#4, 0#4] })).map
      (fun t => ((t.debRemain[3], t.stable[3], t.stable[4]), t.btnSnap[4], t.trace)) =
      some ((3#4, false, true), true, [.convStart]) := by decide

/-- C1. -/
theorem test_conv_accumulates :
    (after (exec (.convDone 100#16 200#16 300#16 65535#16) State.reset)).map
      (fun t => (t.calCount, t.calSum, t.mode)) =
      some (1#5, #v[100#32, 200#32, 300#32, 65535#32], .cal) := by decide

/-- C2, all readings 65535: the largest sum. -/
theorem test_conv_ends_calibration :
    (after (exec (.convDone 65535#16 65535#16 65535#16 65535#16) cal19)).map
      (fun t => (t.mode, t.zeroOffset, t.snapCnt, t.repollCnt)) =
      some (.run, Vector.replicate 4 65535#16, 0#5, 0#7) := by decide

/-- S2: the extremes, with no clamp. -/
theorem test_conversion_extremes :
    (let t := conversionStep identityConfig (samples 65535#16 0#16 2191#16 2192#16)
        { busy0 with zeroOffset := #v[0#16, 65535#16, 2048#16, 2048#16] }
     (t.frame.ax.toList.map BitVec.toInt, t.txLen, t.txBuf.toList.take 28, t.trace)) =
    ([3199, -3199, 0, 7], 28#6,
      [0x42#8, 0x3A#8, 0x30#8, 0x30#8, 0x30#8, 0x30#8, 0x30#8, 0x30#8, 0x30#8, 0x30#8, 0x2C#8, 0x41#8,
       0x3A#8, 0x33#8, 0x31#8, 0x39#8, 0x39#8, 0x2C#8, 0x2D#8, 0x33#8, 0x31#8, 0x39#8, 0x39#8, 0x2C#8,
       0x30#8, 0x2C#8, 0x37#8, 0x0A#8], [.txStart 28]) := by decide

/-- S3: another `AXIS_MAP`. -/
theorem test_conversion_remaps :
    (let t := conversionStep swappedConfig (samples 2548#16 2048#16 1904#16 4095#16) busy0
     (t.chScaled.toList.map BitVec.toInt, t.frame.ax.toList.map BitVec.toInt, t.txLen)) =
    ([24, 0, -7, 99], [0, 24, 99, 7], 23#6) := by decide

/-- X1. -/
theorem test_txdone_releases :
    (after (exec .txDone owned0)).map (fun t => (t.txBusy, t.txLen)) = some (false, 21#6) := by decide

/-- F1, its first event. -/
theorem test_fault_halts : after (exec .platformFault run0) = some halted0 := by decide

/-- F2, the fields that RESET0 gives a value. -/
theorem test_reset_leaves_halted :
    (after (exec .reset { halted0 with snapCnt := 7#5 })).map
      (fun t => (t.mode, t.halted, t.snapCnt, t.calCount, t.txLen, t.frameValid)) =
      some (.cal, false, 0#5, 0#5, 0#6, false) := by decide

/-- The rows of 41_axis_scaler.md R94's table that show the rounding. -/
theorem test_scale_rounds_toward_zero :
    ([143, 144, -144, 500, -500, 2047, 4095, 65535, -65535].map (scaleDelta Config.jic)) =
      [6, 7, -7, 24, -24, 99, 199, 3199, -3199] := by decide

/-- The third row of 95_test_vectors.md's rendering table. -/
theorem test_render_row :
    render { btn := #v[true, false, false, false, false, false, false, true],
             ax := #v[100#16, BitVec.ofInt 16 (-100), 7#16, BitVec.ofInt 16 (-7)] } =
      [0x42#8, 0x3A#8, 0x31#8, 0x30#8, 0x30#8, 0x30#8, 0x30#8, 0x30#8, 0x30#8, 0x31#8, 0x2C#8, 0x41#8,
       0x3A#8, 0x31#8, 0x30#8, 0x30#8, 0x2C#8, 0x2D#8, 0x31#8, 0x30#8, 0x30#8, 0x2C#8, 0x37#8, 0x2C#8,
       0x2D#8, 0x37#8, 0x0A#8] := by decide

/-- R71: an illegal packet (a leading zero in the first number) is no packet. -/
theorem test_parse_refuses_leading_zero :
    parsePacket [0x42#8, 0x3A#8, 0x30#8, 0x30#8, 0x30#8, 0x30#8, 0x30#8, 0x30#8, 0x30#8, 0x30#8, 0x2C#8,
      0x41#8, 0x3A#8, 0x30#8, 0x37#8, 0x2C#8, 0x30#8, 0x2C#8, 0x30#8, 0x2C#8, 0x30#8, 0x0A#8] = none := by
  decide

/-- Q1's order: the completion before the tick. -/
theorem test_serialise_order :
    serialise { rst := false, edge := 0x40#8, tick := true, pin := 0xFF#8, convDone := true,
                raw := Vector.replicate 4 2048#16, txDone := true, platFault := false } =
      [.txDone, .convDone 2048#16 2048#16 2048#16 2048#16, .tick 0xFF#8, .edge 6] := by decide

/-- The first step after reset takes the presented event. -/
theorem test_fetch_word :
    after (step (State.reset.withFetchWord 16 0x1005)) = after (exec (.edge 5) { State.reset with pos := 1 }) := by
  decide

/-! ### Witnesses: states and operands that meet an obligation's hypotheses -/

/-- DecodedWordsAreTheEncoding, StepRunsTheDecodedEvent. -/
theorem witness_decodes :
    decode ({ run0 with stream := [0x3000#16, 1#16, 2#16, 3#16, 4#16, 0x4000#16] } : State).stream =
      .ok (.convDone 1#16 2#16 3#16 4#16, [0x4000#16]) := rfl

/-- BadWordsAreRefusedByNameAndPosition, the reserved words at the ends of their range. -/
theorem witness_reserved_words :
    step { run0 with stream := [0x0FFF#16] } = .refused (.reserved 0x0FFF#16 0) ∧
    step { run0 with stream := [0x6000#16, 0x1000#16], pos := 9 } = .refused (.reserved 0x6000#16 9) ∧
    step { run0 with stream := [0xEFFF#16] } = .refused (.reserved 0xEFFF#16 0) := ⟨rfl, rfl, rfl⟩

/-- BadWordsAreRefusedByNameAndPosition, each kind of ill-formed word at a boundary value. -/
theorem witness_ill_formed_words :
    step { run0 with stream := [0x1008#16] } = .refused (.illFormed 0x1008#16 0) ∧
    step { run0 with stream := [0x2100#16] } = .refused (.illFormed 0x2100#16 0) ∧
    step { run0 with stream := [0xF001#16] } = .refused (.illFormed 0xF001#16 0) ∧
    step { run0 with stream := [0x3000#16, 0#16, 0#16, 0#16] } =
      .refused (.illFormed 0x3000#16 0) := ⟨rfl, rfl, rfl, rfl⟩

/-- EventWordsAreTheTableRows, both sides: a row's word, and a word of no row. -/
theorem witness_table_rows :
    opcodeRows.any (matchesRow 0x1007#16) = true ∧ opcodeRows.any (matchesRow 0x1008#16) = false := by
  decide

/-- ByteStreamsAreMostSignificantFirst: the second word of a stream. -/
theorem witness_word_in_stream : ([0xF000#16, 0x1002#16] : List Word)[1]? = some 0x1002#16 := rfl

/-- IdleStepHoldsTheState. -/
theorem witness_idle : State.reset.stream = [] := rfl

/-- SteppingWordsRefinesRunningEvents. -/
theorem witness_stream_of_events :
    ({ run0 with stream := [0x1002#16, 0x20FF#16, 0x4000#16] } : State).stream =
      encodeAll [.edge 2, .tick 0xFF#8] ++ [0x4000#16] := rfl

/-- EdgeSetsOnlyItsLatch, both clauses, and another channel. -/
theorem witness_edge : run0.halted = false ∧ halted0.halted = true ∧ (7 : Fin 8) ≠ 0 := by decide

/-- TickConsumesLatchesAndArms: a tick that is taken, a latch that is set and one that is not. -/
theorem witness_tick_taken :
    pending3.mode = .run ∧ pending3.halted = false ∧ pending3.edgePending[(3 : Fin 8)] = true ∧
    pending3.edgePending[(0 : Fin 8)] = false := by decide

/-- TickResolvesAtZero: a count of 1, and one of 2. -/
theorem witness_counts :
    (counting3 1).mode = .run ∧ (counting3 1).halted = false ∧
    (counting3 1).edgePending[(3 : Fin 8)] = false ∧ (counting3 1).debRemain[(3 : Fin 8)] = 1#4 ∧
    2 ≤ (counting3 2).debRemain[(3 : Fin 8)].toNat := by decide

/-- RepollForcesIdleChannelsOnly: a re-poll tick with an idle channel and with a window running, and
an idle channel on another tick. -/
theorem witness_repoll :
    run99.mode = .run ∧ run99.halted = false ∧ (run99.repollCnt.toNat + 1) % 100 = 0 ∧
    (after (exec (.tick 0#8) run99)).map (fun t => decide (t.debRemain[(0 : Fin 8)] = 0#4)) = some true ∧
    (after (exec (.tick 0#8) pending3)).map (fun t => decide (t.debRemain[(3 : Fin 8)] = 0#4)) = some false ∧
    (run0.repollCnt.toNat + 1) % 100 ≠ 0 ∧ run0.debRemain[(0 : Fin 8)] = 0#4 ∧
    run0.edgePending[(0 : Fin 8)] = false := by decide

/-- BoundaryTakesSnapshotAndTriggers: a boundary and another tick. -/
theorem witness_boundary :
    run99.mode = .run ∧ run99.halted = false ∧ (run99.snapCnt.toNat + 1) % 20 = 0 ∧
    (run0.snapCnt.toNat + 1) % 20 ≠ 0 := by decide

/-- CountersCountRunTicks, OneConversionRequestPerBoundary. -/
theorem witness_run_entry :
    run0.mode = .run ∧ run0.halted = false ∧ run0.snapCnt = 0#5 ∧ run0.repollCnt = 0#7 ∧
    ∀ e ∈ ([.tick 0xFF#8, .edge 0, .convDone 0#16 0#16 0#16 0#16, .txDone] : List Instr),
      isOperating e = true := by decide

/-- ChannelsAreIndependent: states that differ on channel 3 and agree on channel 0. -/
theorem witness_two_states :
    pending3 ≠ run0 ∧ pending3.mode = .run ∧ run0.mode = .run ∧
    pending3.edgePending[(0 : Fin 8)] = run0.edgePending[(0 : Fin 8)] ∧
    pending3.debRemain[(0 : Fin 8)] = run0.debRemain[(0 : Fin 8)] ∧
    pending3.stable[(0 : Fin 8)] = run0.stable[(0 : Fin 8)] ∧
    (0xFE#8).getLsbD 0 = (0x00#8).getLsbD 0 ∧ pending3.repollCnt = run0.repollCnt := by decide

/-- WindowResolvesOnTheFifteenthTick and CleanEdgeFlipsOnce: sequences of 1, 14 and 15 ticks on
channel 3 at a held level, with another channel's edge among them. -/
theorem witness_window :
    pending3.mode = .run ∧ pending3.halted = false ∧ pending3.edgePending[(3 : Fin 8)] = true ∧
    pending3.stable[(3 : Fin 8)] = false ∧
    (∀ e ∈ Instr.edge 0 :: List.replicate 15 (.tick 0xF7#8), isOperating e = true ∧ e ≠ .edge 3) ∧
    tickCount [.edge 0, .tick 0xF7#8] = 1 ∧ tickCount (List.replicate 14 (.tick 0xF7#8)) = 14 ∧
    tickCount (List.replicate 15 (.tick 0xF7#8)) = 15 := by decide

/-- CleanEdgeFlipsOnce, RepollRecoversMissedEdge: a pin held low through any number of ticks. -/
theorem witness_pin_held (n : Nat) : pinHeldAt 3 false (List.replicate n (.tick 0xF7#8)) := by
  intro p hp
  cases List.eq_of_mem_replicate hp
  decide

/-- BounceNeverFlips: two bursts, of 1 and of 14 ticks. -/
theorem witness_bursts :
    ∀ b ∈ ([[.tick 0xF7#8], List.replicate 14 (.tick 0xFF#8)] : List (List Instr)),
      (∀ e ∈ b, isOperating e = true ∧ e ≠ .edge 3) ∧ 1 ≤ tickCount b ∧ tickCount b ≤ 14 := by decide

/-- RepollRecoversMissedEdge: 100 ticks. -/
theorem witness_hundred_ticks :
    (∀ e ∈ List.replicate 100 (Instr.tick 0xF7#8), isOperating e = true ∧ e ≠ .edge 3) ∧
    100 ≤ tickCount (List.replicate 100 (.tick 0xF7#8)) := by decide

/-- LatchedEdgeReachesTheNextTick. -/
theorem witness_no_tick :
    ∀ e ∈ ([.edge 1, .txDone, .convDone 0#16 0#16 0#16 0#16] : List Instr),
      isOperating e = true ∧ isTick e = false := by decide

/-- CalibrationReadingAccumulates: the count at both ends of its range. -/
theorem witness_calibrating :
    State.reset.mode = .cal ∧ State.reset.halted = false ∧ State.reset.calCount.toNat < 19 ∧
    ({ cal19 with calCount := 18#5 } : State).calCount.toNat < 19 ∧
    ∀ ch : Fin 4, ({ cal19 with calCount := 18#5 } : State).calSum[ch].toNat ≤ 19 * 65535 := by decide

/-- LastReadingEndsCalibration, with the sums at their bound. -/
theorem witness_last_reading :
    cal19.mode = .cal ∧ cal19.halted = false ∧ cal19.calCount.toNat = 19 ∧
    ∀ ch : Fin 4, cal19.calSum[ch].toNat ≤ 19 * 65535 := by decide

/-- OffsetIsTheFlooredMean: 20 readings with an edge and a tick among them. -/
theorem witness_twenty_readings :
    (∀ e ∈ Instr.edge 4 :: .tick 0#8 :: List.replicate 20 (.convDone 2048#16 0#16 1#16 65535#16),
      isOperating e = true) ∧
    convDoneCount (.edge 4 :: .tick 0#8 :: List.replicate 20 (.convDone 2048#16 0#16 1#16 65535#16)) = 20 := by
  decide

/-- ConversionScalesExactly, AxisOrderOfDeadZoneAndRemapAgree, ConversionCommitsTheFrameWhole,
IdleTransportGetsThePacket, TransportReadsTheRenderedPacket; and BusyTransportDropsThePacket. -/
theorem witness_conversion :
    busy0.mode = .run ∧ busy0.halted = false ∧ busy0.convBusy = true ∧ busy0.txBusy = false ∧
    ({ owned0 with convBusy := true } : State).mode = .run ∧
    ({ owned0 with convBusy := true } : State).halted = false ∧
    ({ owned0 with convBusy := true } : State).txBusy = true := by decide

/-- AxisOrderOfDeadZoneAndRemapAgree: every axis has a source channel and a sign. -/
theorem witness_axis_entries :
    ∃ (ch : Fin 4) (sg : Sign),
      Config.jic.axisMap.src[(0 : Fin 4)] = ch ∧ Config.jic.axisMap.sgn[(0 : Fin 4)] = sg :=
  ⟨_, _, rfl, rfl⟩

/-- ScaledRangeIsBounded and DeadZoneEdgeIsAt144: 12-bit samples, and differences of 144 and -144. -/
theorem witness_samples :
    (4095#16).toNat ≤ 4095 ∧ (0#16).toNat ≤ 4095 ∧ offsetDelta 2192#16 2048#16 = 144 ∧
    offsetDelta 1904#16 2048#16 = -144 ∧ (offsetDelta 2191#16 2048#16).natAbs ≤ 143 := by decide

/-- FramePairsSnapshotWithItsConversion: a boundary, 19 ticks and an edge, in time. -/
theorem witness_answered_in_time :
    run99.mode = .run ∧ run99.halted = false ∧ (run99.snapCnt.toNat + 1) % 20 = 0 ∧
    (∀ e ∈ Instr.edge 0 :: List.replicate 19 (.tick 0xFF#8),
      isOperating e = true ∧ isConvDone e = false) ∧
    (after (exec (.tick 0xFF#8) run99)).map
      (latencyKept (.edge 0 :: List.replicate 19 (.tick 0xFF#8))) = some true := by decide

/-- FramePairsSnapshotWithItsConversion: the boundary tick answers a next state. -/
theorem witness_boundary_completes : ∃ s1 : State, exec (.tick 0xFF#8) run99 = .next s1 := ⟨_, rfl⟩

/-- RenderedPacketsReadBack: axes at both ends of the range. -/
theorem witness_axes_in_range :
    ∀ k : Fin 4, ({ btn := Vector.replicate 8 true,
                    ax := #v[3199#16, BitVec.ofInt 16 (-3199), 0#16, 7#16] } : Frame).ax[k].toInt.natAbs ≤
      3199 := by decide

/-- WorkedExampleIsHandedOff. -/
theorem witness_worked_frame :
    ∃ s : State, s.txBusy = false ∧
      s.frame = { btn := #v[false, false, true, false, false, false, false, false],
                  ax := #v[24#16, 0#16, 0#16, 0#16] } :=
  ⟨{ run0 with
      frame := { btn := #v[false, false, true, false, false, false, false, false],
                 ax := #v[24#16, 0#16, 0#16, 0#16] } }, rfl, rfl⟩

/-- TxDoneOnlyReleasesTheBuffer: both clauses. -/
theorem witness_txdone : owned0.halted = false ∧ halted0.halted = true := by decide

/-- OwnedBufferIsStable, TransportReadsTheRenderedPacket: events that keep the buffer owned. -/
theorem witness_buffer_owned :
    owned0.txBusy = true ∧
    ∀ e ∈ ([.tick 0#8, .edge 0, .convDone 0#16 0#16 0#16 0#16, .platformFault] : List Instr),
      e ≠ .txDone ∧ e ≠ .reset := by decide

/-- HaltedStateIsLeftByResetOnly. -/
theorem witness_halted :
    halted0.halted = true ∧
    ∀ e ∈ ([.tick 0#8, .edge 0, .convDone 0#16 0#16 0#16 0#16, .txDone, .platformFault] : List Instr),
      e ≠ .reset := by decide

/-- OffsetIsWriteOncePerReset. -/
theorem witness_run_without_reset :
    run0.mode = .run ∧
    ∀ e ∈ ([.convDone 0#16 0#16 0#16 0#16, .platformFault] : List Instr), e ≠ .reset := by decide

/-- ModesChangeOnlyAsListed, EachFieldHasItsWriters, EventsEmitOnlyTheirPulses: each event answers a
next state, the last calibration reading and the boundary tick among them. -/
theorem witness_events_complete :
    (∃ t, exec (.edge 0) run0 = .next t) ∧ (∃ t, exec (.tick 0#8) run99 = .next t) ∧
    (∃ t, exec (.convDone 0#16 0#16 0#16 0#16) cal19 = .next t) ∧
    (∃ t, exec (.convDone 0#16 0#16 0#16 0#16) busy0 = .next t) ∧ (∃ t, exec .txDone owned0 = .next t) ∧
    (∃ t, exec .platformFault run0 = .next t) ∧ (∃ t, exec .reset halted0 = .next t) :=
  ⟨⟨_, rfl⟩, ⟨_, rfl⟩, ⟨_, rfl⟩, ⟨_, rfl⟩, ⟨_, rfl⟩, ⟨_, rfl⟩, ⟨_, rfl⟩⟩

/-- ModesChangeOnlyAsListed: modes that do change, by the last reading, a RESET and a fault. -/
theorem witness_mode_changes :
    (after (exec (.convDone 0#16 0#16 0#16 0#16) cal19)).map (fun t => decide (t.mode = cal19.mode)) =
      some false ∧
    (after (exec .reset halted0)).map (fun t => (decide (t.mode = halted0.mode), t.halted)) =
      some (false, false) ∧
    (after (exec .platformFault run0)).map (·.halted) = some true := by decide

/-- PacketsNeverOutnumberBoundaries. -/
theorem witness_nothing_outstanding : run0.convBusy = false := rfl

/-- EventsOutOfPhaseHaveNoEffect: each event out of phase, and one while halted. -/
theorem witness_out_of_phase :
    keepsPhase State.reset (.tick 0#8) = false ∧
    keepsPhase run0 (.convDone 0#16 0#16 0#16 0#16) = false ∧ keepsPhase run0 .txDone = false ∧
    halted0.halted = true ∧ (Instr.edge 0) ≠ .reset := by decide

/-- EdgeInTickCycleSurvives, CompletionInCyclePairsWithOldSnapshot: one cycle with an edge, a tick,
a completion and a TX_DONE at a boundary. -/
theorem witness_cycle :
    ({ run99 with convBusy := true } : State).mode = .run ∧
    ({ run99 with convBusy := true } : State).halted = false ∧
    ({ run99 with convBusy := true } : State).convBusy = true ∧
    ({ run99 with convBusy := true } : State).txBusy = false ∧
    (({ run99 with convBusy := true } : State).snapCnt.toNat + 1) % 20 = 0 ∧
    ({ run99 with convBusy := true } : State).edgePending[(6 : Fin 8)] = false ∧
    ({ run99 with convBusy := true } : State).debRemain[(6 : Fin 8)] = 0#4 ∧
    (0x40#8).getLsbD (6 : Fin 8).val = true ∧
    (let c : CycleIn := { rst := false, edge := 0x40#8, tick := true, pin := 0xFF#8, convDone := true,
                          raw := Vector.replicate 4 2048#16, txDone := true, platFault := false }
     c.rst = false ∧ c.platFault = false ∧ c.tick = true ∧ c.convDone = true ∧ c.txDone = true) := by
  decide

/-- FramePortsShowTheFrame. -/
theorem witness_frame_valid : owned0.frameValid = true := rfl

/-- EveryStepKeepsLegal: a legal state, away from reset, whose next step takes a boundary tick. -/
theorem witness_legal :
    ({ run99 with stream := [0x20FF#16] } : State).Legal ∧
    ∃ t, step { run99 with stream := [0x20FF#16] } = .next t := by
  refine ⟨⟨by decide, by decide, by decide, by decide, by decide, by decide, by decide, by decide,
    by decide, by decide, by decide⟩, _, rfl⟩

/-- EveryStepKeepsPacketIntact: a packet that is owned and intact, and a step that is taken. -/
theorem witness_packet_intact :
    owned0.txBusy = true ∧ ({ owned0 with stream := [0x20FF#16] } : State).PacketIntact ∧
    ∃ t, step { owned0 with stream := [0x20FF#16] } = .next t := by
  refine ⟨rfl, ?_, _, rfl⟩
  intro _
  decide

end Sys2Proof.Tests
end

section
/-! PROOF. The constraints of 00_scope.md R8 and the widths of R9 on the hardware's configuration. -/

namespace Sys2Proof

/-- The check of R8 on `AXIS_MAP`, as a property of the source table. -/
theorem AxisMap.isPermutation_iff (m : AxisMap) :
    m.isPermutation = true ↔ Function.Surjective (fun k : Fin 4 => m.src[k]) :=
  decide_eq_true_iff

/-- A source table that lists the values of a permutation passes, whatever the signs are. -/
theorem AxisMap.isPermutation_of_src_eq_perm {m : AxisMap} (σ : Equiv.Perm (Fin 4))
    (hsrc : ∀ k : Fin 4, m.src[k] = σ k) : m.isPermutation = true := by
  rw [AxisMap.isPermutation_iff, funext hsrc]
  exact σ.surjective

@[simp] theorem Config.openAxisMap_src (k : Fin 4) :
    Config.openAxisMap.src[k] = Config.openAxisSource k := by
  simp [Config.openAxisMap]

/-- R7's numbers meet every constraint and width, so R8's condition on `AXIS_MAP` alone decides
whether the hardware's configuration with a given map is admissible. -/
theorem Config.wellFormed_jic_with_axisMap (m : AxisMap) :
    ({ Config.jic with axisMap := m } : Config).wellFormed = m.isPermutation := by
  have hfits : ({ Config.jic with axisMap := m } : Config).fitsWidths = true := rfl
  have hmeets : ({ Config.jic with axisMap := m } : Config).meetsConstraints = m.isPermutation := by
    simp [Config.meetsConstraints]
  rw [Config.wellFormed, hfits, hmeets, Bool.and_true]

/-- Settles O32: the numbers are checked once for every map, and the open map's sources are a
permutation of the channels (log 5). -/
theorem hardwareConfigurationIsAdmissible : Obligations.HardwareConfigurationIsAdmissible := by
  have hperm : Config.openAxisMap.isPermutation = true :=
    AxisMap.isPermutation_of_src_eq_perm Config.openAxisSource Config.openAxisMap_src
  exact (Config.wellFormed_jic_with_axisMap Config.openAxisMap).trans hperm

end Sys2Proof
end

section
/-! PROOF. The writers of each field (10_state.md R40), event by event. -/

namespace Sys2Proof.Machine

/-! ### Frames of the events' effects -/

/-- A calibration reading writes the calibration's own fields, the mode and the counters (R40). -/
theorem calAccumulate_eq_update (c : Config) (r : PerChannel (BitVec 16)) (s : State) :
    calAccumulate c r s =
      { s with calCount := (calAccumulate c r s).calCount, calSum := (calAccumulate c r s).calSum,
               zeroOffset := (calAccumulate c r s).zeroOffset, mode := (calAccumulate c r s).mode,
               snapCnt := (calAccumulate c r s).snapCnt,
               repollCnt := (calAccumulate c r s).repollCnt,
               freeCount := (calAccumulate c r s).freeCount } := by
  apply State.ext <;> simp

/-- A consumed conversion writes the axis fields, the frame and the hand-off's fields (R40). -/
theorem conversionStep_eq_update (c : Config) (r : PerChannel (BitVec 16)) (s : State) :
    conversionStep c r s =
      { s with raw := (conversionStep c r s).raw, chScaled := (conversionStep c r s).chScaled,
               frame := (conversionStep c r s).frame,
               frameValid := (conversionStep c r s).frameValid,
               convBusy := (conversionStep c r s).convBusy,
               txBuf := (conversionStep c r s).txBuf, txLen := (conversionStep c r s).txLen,
               txBusy := (conversionStep c r s).txBusy, trace := (conversionStep c r s).trace,
               freeCount := (conversionStep c r s).freeCount } := by
  apply State.ext <;> simp [conversionStep]

@[simp] theorem conversionStep_mode (c : Config) (r : PerChannel (BitVec 16)) (s : State) :
    (conversionStep c r s).mode = s.mode := by simp [conversionStep]

@[simp] theorem conversionStep_snapCnt (c : Config) (r : PerChannel (BitVec 16)) (s : State) :
    (conversionStep c r s).snapCnt = s.snapCnt := by simp [conversionStep]

@[simp] theorem conversionStep_repollCnt (c : Config) (r : PerChannel (BitVec 16)) (s : State) :
    (conversionStep c r s).repollCnt = s.repollCnt := by simp [conversionStep]

/-! ### One direction alone: "set only" and "clear only" -/

theorem latchEdge_edgePending_get (ch : Fin 8) (s : State) (j : Fin 8) :
    (latchEdge ch s).edgePending[j] = if j = ch then true else s.edgePending[j] := by
  simp [Vector.getElem_set, Fin.ext_iff, eq_comm]

theorem tickStep_edgePending_get (c : Config) (p : BitVec 8) (s : State) (j : Fin 8) :
    (tickStep c p s).edgePending[j] = false := by
  simp

theorem tickStep_convBusy_of_busy (c : Config) (p : BitVec 8) {s : State}
    (hbusy : s.convBusy = true) : (tickStep c p s).convBusy = true := by
  rcases tickStep_boundary c p s with ⟨-, -, hkept, -⟩ | ⟨-, -, hset, -⟩
  · exact hkept.trans hbusy
  · exact hset

/-- In CAL a reading moves the counters only with the mode, and then to 0 (R40, 41_axis_scaler.md
R89). -/
theorem calAccumulate_counters (c : Config) (r : PerChannel (BitVec 16)) {s : State}
    (hcal : s.mode = .cal) :
    ((calAccumulate c r s).mode = s.mode ∧ (calAccumulate c r s).snapCnt = s.snapCnt ∧
      (calAccumulate c r s).repollCnt = s.repollCnt) ∨
    ((calAccumulate c r s).mode ≠ s.mode ∧ (calAccumulate c r s).snapCnt = 0#5 ∧
      (calAccumulate c r s).repollCnt = 0#7) := by
  rcases calAccumulate_cases c r s with ⟨-, hadd⟩ | ⟨-, hend⟩
  · simp [hadd]
  · simp [hend, hcal]

/-! ### The rows of R40's table -/

theorem execEdge_writers {ch : Fin 8} {s t : State} (h : execEdge ch s = .next t) :
    t = { s with edgePending := t.edgePending } ∧
    ∀ j : Fin 8, (s.edgePending[j] = true → t.edgePending[j] = true) ∧
      (j ≠ ch → t.edgePending[j] = s.edgePending[j]) := by
  rcases execEdge_next h with ⟨-, rfl⟩ | ⟨-, rfl⟩
  · exact ⟨rfl, fun _ => ⟨id, fun _ => rfl⟩⟩
  · refine ⟨rfl, fun j => ?_⟩
    rw [latchEdge_edgePending_get]
    by_cases hj : j = ch <;> simp [hj]

theorem execTick_writers {p : BitVec 8} {s t : State} (h : execTick p s = .next t) :
    t = { s with edgePending := t.edgePending, debRemain := t.debRemain, stable := t.stable,
                 snapCnt := t.snapCnt, repollCnt := t.repollCnt, btnSnap := t.btnSnap,
                 convBusy := t.convBusy, trace := t.trace } ∧
    (∀ j : Fin 8, t.edgePending[j] = true → s.edgePending[j] = true) ∧
    (s.convBusy = true → t.convBusy = true) := by
  rcases execTick_next h with ⟨-, rfl⟩ | ⟨-, -, rfl⟩
  · exact ⟨rfl, fun _ => id, id⟩
  · refine ⟨tickStep_frame _ p s, fun j hj => ?_, tickStep_convBusy_of_busy _ p⟩
    rw [tickStep_edgePending_get] at hj
    cases hj

theorem execConvDone_frame {r0 r1 r2 r3 : BitVec 16} {s t : State}
    (h : execConvDone r0 r1 r2 r3 s = .next t) :
    t = { s with calCount := t.calCount, calSum := t.calSum, zeroOffset := t.zeroOffset,
                 mode := t.mode, snapCnt := t.snapCnt, repollCnt := t.repollCnt, raw := t.raw,
                 chScaled := t.chScaled, frame := t.frame, frameValid := t.frameValid,
                 convBusy := t.convBusy, txBuf := t.txBuf, txLen := t.txLen,
                 txBusy := t.txBusy, trace := t.trace, freeCount := t.freeCount } := by
  rcases execConvDone_next h with ⟨-, rfl⟩ | ⟨-, -, rfl⟩ | ⟨-, -, -, rfl⟩ | ⟨-, -, -, rfl⟩
  · rfl
  · rw [calAccumulate_eq_update]
  · rw [conversionStep_eq_update]
  · rfl

/-- A completion clears `CONV_BUSY` only and sets `TX_BUSY` only (R40). -/
theorem execConvDone_busy {r0 r1 r2 r3 : BitVec 16} {s t : State}
    (h : execConvDone r0 r1 r2 r3 s = .next t) :
    (t.convBusy = true → s.convBusy = true) ∧ (s.txBusy = true → t.txBusy = true) := by
  rcases execConvDone_next h with ⟨-, rfl⟩ | ⟨-, -, rfl⟩ | ⟨-, -, -, rfl⟩ | ⟨-, -, -, rfl⟩
  · exact ⟨id, id⟩
  · simp
  · simp
  · exact ⟨id, id⟩

/-- A completion keeps the tick counters with the mode and zeroes them with a change of it (R40). -/
theorem execConvDone_counters {r0 r1 r2 r3 : BitVec 16} {s t : State}
    (h : execConvDone r0 r1 r2 r3 s = .next t) :
    (t.mode = s.mode ∧ t.snapCnt = s.snapCnt ∧ t.repollCnt = s.repollCnt) ∨
    (t.mode ≠ s.mode ∧ t.snapCnt = 0#5 ∧ t.repollCnt = 0#7) := by
  rcases execConvDone_next h with ⟨-, rfl⟩ | ⟨hcal, -, rfl⟩ | ⟨-, -, -, rfl⟩ | ⟨-, -, -, rfl⟩
  · exact .inl ⟨rfl, rfl, rfl⟩
  · exact calAccumulate_counters _ _ hcal
  · exact .inl ⟨by simp, by simp, by simp⟩
  · exact .inl ⟨rfl, rfl, rfl⟩

theorem execTxDone_writers {s t : State} (h : execTxDone s = .next t) :
    t = { s with txBusy := t.txBusy } ∧ (t.txBusy = true → s.txBusy = true) := by
  rcases execTxDone_next h with ⟨-, rfl⟩ | ⟨-, rfl⟩
  · exact ⟨rfl, id⟩
  · exact ⟨rfl, by simp⟩

theorem execPlatformFault_writers {s t : State} (h : execPlatformFault s = .next t) :
    t = { s with halted := t.halted } ∧ (s.halted = true → t.halted = true) := by
  rcases execPlatformFault_next h with ⟨-, rfl⟩ | ⟨-, rfl⟩
  · exact ⟨rfl, id⟩
  · exact ⟨rfl, by simp⟩

/-- Settles O48: one row of R40's table per event. -/
theorem eachFieldHasItsWriters : Obligations.EachFieldHasItsWriters := by
  intro i s t h
  cases i with
  | edge ch => exact execEdge_writers h
  | tick p => exact execTick_writers h
  | convDone r0 r1 r2 r3 =>
    obtain ⟨hconv, htx⟩ := execConvDone_busy h
    refine ⟨execConvDone_frame h, hconv, htx, ?_⟩
    rcases execConvDone_counters h with ⟨hmode, hkept⟩ | ⟨hmode, hzero⟩
    · exact ⟨fun _ => hkept, fun hne => absurd hmode hne⟩
    · exact ⟨fun heq => absurd heq hmode, fun _ => hzero⟩
  | txDone => exact execTxDone_writers h
  | platformFault => exact execPlatformFault_writers h
  | reset =>
    obtain rfl := execReset_next h
    exact ⟨rfl, rfl, rfl⟩

end Sys2Proof.Machine
end

section
/-! PROOF. The range of the scaled values (10_state.md R33, 41_axis_scaler.md R95). -/

namespace Sys2Proof.Machine

theorem natAbs_offsetDelta_le (raw offset : BitVec 16) : (offsetDelta raw offset).natAbs ≤ 65535 := by
  have := raw.isLt
  have := offset.isLt
  unfold offsetDelta
  omega

/-- R94's division of a magnitude: truncation rounds the magnitude down. -/
theorem natAbs_scaleDelta (d : Int) : (scaleDelta Config.jic d).natAbs = d.natAbs * 100 / 2048 := by
  rw [scaleDelta, truncDiv, Int.natAbs_tdiv, Int.natAbs_mul]
  rfl

theorem natAbs_deadZone_le (c : Config) (v : Int) : (deadZone c v).natAbs ≤ v.natAbs := by
  unfold deadZone
  split
  · exact Nat.zero_le _
  · exact le_rfl

theorem natAbs_applySign (g : Sign) (v : Int) : (applySign g v).natAbs = v.natAbs := by
  cases g
  · rfl
  · exact Int.natAbs_neg v

/-- R95: 65535 * 100 / 2048 = 3199, and the dead zone makes no magnitude larger. -/
theorem natAbs_scaledValue_le (raw offset : BitVec 16) :
    (scaledValue Config.jic raw offset).natAbs ≤ 3199 := by
  have hdelta := natAbs_offsetDelta_le raw offset
  calc (scaledValue Config.jic raw offset).natAbs
      ≤ (scaleDelta Config.jic (offsetDelta raw offset)).natAbs := natAbs_deadZone_le _ _
    _ = (offsetDelta raw offset).natAbs * 100 / 2048 := natAbs_scaleDelta _
    _ ≤ 3199 := by omega

/-- A value of R95's range is stored in 16 bits as it is. -/
theorem toInt_ofInt_of_natAbs_le {v : Int} (h : v.natAbs ≤ 3199) :
    (BitVec.ofInt 16 v).toInt = v :=
  BitVec.toInt_ofInt_eq_self (by decide) (by omega) (by omega)

/-- Whatever the zero offsets are, what a conversion stores lies in R33's range. -/
theorem scaleStep_chScaled_range (r : PerChannel (BitVec 16)) (s : State) (ch : Fin 4) :
    ((scaleStep Config.jic r s).chScaled[ch]).toInt.natAbs ≤ 3199 := by
  have hrange := natAbs_scaledValue_le r[ch] s.zeroOffset[ch]
  have hget : (scaleStep Config.jic r s).chScaled[ch] =
      BitVec.ofInt 16 (scaledValue Config.jic r[ch] s.zeroOffset[ch]) := by simp
  rwa [hget, toInt_ofInt_of_natAbs_le hrange]

/-- The axis remap (R97) copies and negates, so it keeps the range. -/
theorem axisVector_range (c : Config) {scaled : PerChannel (BitVec 16)}
    (h : ∀ ch : Fin 4, scaled[ch].toInt.natAbs ≤ 3199) (k : Fin 4) :
    ((axisVector c scaled)[k]).toInt.natAbs ≤ 3199 := by
  have hsigned : (applySign c.axisMap.sgn[k] scaled[c.axisMap.src[k]].toInt).natAbs ≤ 3199 :=
    (natAbs_applySign _ _).le.trans (h _)
  rw [axisVector_get, toInt_ofInt_of_natAbs_le hsigned]
  exact hsigned

end Sys2Proof.Machine
end

section
/-! PROOF. The length of a rendered packet (30_encoding.md R70, 42_packet_assembler.md R103 to R105). -/

namespace Sys2Proof.Machine

theorem length_decDigits_pos (fuel n : Nat) : 0 < (decDigits (fuel + 1) n).length := by
  rw [decDigits]
  split <;> simp

theorem length_decDigits_le_of_lt (fuel : Nat) {k n : Nat} (hk : n < 10 ^ (k + 1)) :
    (decDigits fuel n).length ≤ k + 1 := by
  induction fuel generalizing k n with
  | zero => simp [decDigits]
  | succ fuel ih =>
    rw [decDigits]
    split
    · simp
    · cases k with
      | zero => omega
      | succ k =>
        have hdiv : n / 10 < 10 ^ (k + 1) := Nat.div_lt_of_lt_mul (by rwa [← Nat.pow_succ'])
        simpa using ih hdiv

theorem length_dec_pos (v : Int) : 0 < (dec v).length := by
  unfold dec
  split_ifs
  · simp
  · simp
  · exact length_decDigits_pos 4 _

/-- A sign and at most four digits. -/
theorem length_dec_le {v : Int} (h : v.natAbs ≤ 3199) : (dec v).length ≤ 5 := by
  have hdigits : (decDigits 5 v.natAbs).length ≤ 4 := length_decDigits_le_of_lt 5 (by omega)
  unfold dec
  split_ifs
  · simp
  · exact Nat.succ_le_succ hdigits
  · omega

theorem length_render (f : Frame) :
    (render f).length = 17 + ((dec f.ax[0].toInt).length + (dec f.ax[1].toInt).length +
      (dec f.ax[2].toInt).length + (dec f.ax[3].toInt).length) := by
  simp only [render, renderButtons, renderAxes, List.length_append, List.length_cons,
    List.length_nil]
  omega

/-- R70: 17 fixed characters and four numbers of 1 to 5 characters each. -/
theorem length_render_range {f : Frame} (h : ∀ k : Fin 4, f.ax[k].toInt.natAbs ≤ 3199) :
    21 ≤ (render f).length ∧ (render f).length ≤ 37 := by
  have h0 : (dec f.ax[0].toInt).length ≤ 5 := length_dec_le (h 0)
  have h1 : (dec f.ax[1].toInt).length ≤ 5 := length_dec_le (h 1)
  have h2 : (dec f.ax[2].toInt).length ≤ 5 := length_dec_le (h 2)
  have h3 : (dec f.ax[3].toInt).length ≤ 5 := length_dec_le (h 3)
  have := length_dec_pos f.ax[0].toInt
  have := length_dec_pos f.ax[1].toInt
  have := length_dec_pos f.ax[2].toInt
  have := length_dec_pos f.ax[3].toInt
  rw [length_render]
  omega

/-- A hand-off stores the length of the packet in `TX_LEN`'s 6 bits as it is. -/
theorem sendPacket_txLen_toNat {s : State} (h : (render s.frame).length ≤ 37) :
    (sendPacket s).txLen.toNat = (render s.frame).length := by
  rw [sendPacket_txLen, BitVec.toNat_ofNat]
  omega

end Sys2Proof.Machine
end

section
/-! PROOF. The invariants of 10_state.md R41: they hold after reset, and every step keeps them. -/

namespace Sys2Proof.Machine

/-! ### Reset -/

theorem reset_legal : State.reset.Legal := by
  constructor <;> decide

/-- RESET meets the invariants from any state, as R137's writes put the JIC in CAL with nothing in
flight. -/
theorem resetFields_legal (s : State) : (resetFields s).Legal := by
  constructor <;> simp

/-- Settles O57: of the machine's first state, and of what RESET leaves in any state. -/
theorem resetStateIsLegal : Obligations.ResetStateIsLegal := by
  refine ⟨reset_legal, fun s t h => ?_⟩
  obtain rfl := execReset_next h
  exact resetFields_legal s

section
variable {s : State}

/-! ### Updates of fields that no invariant reads -/

theorem consume_legal (rest : List Word) (h : s.Legal) : (s.consume rest).Legal := { h with }

theorem latchEdge_legal (ch : Fin 8) (h : s.Legal) : (latchEdge ch s).Legal := { h with }

theorem halt_legal (h : s.Legal) : (halt s).Legal := { h with }

/-! ### TX_DONE -/

theorem releaseBuffer_legal (h : s.Legal) : (releaseBuffer s).Legal :=
  { h with
    calIdle := fun hcal =>
      have ⟨hconv, _, hvalid⟩ := h.calIdle hcal
      ⟨hconv, rfl, hvalid⟩
    owned := by simp }

/-! ### A tick -/

section
variable (c : Config) (p : BitVec 8) (s : State)

@[simp] theorem tickStep_mode : (tickStep c p s).mode = s.mode := by simp [tickStep]
@[simp] theorem tickStep_calCount : (tickStep c p s).calCount = s.calCount := by simp [tickStep]
@[simp] theorem tickStep_txBusy : (tickStep c p s).txBusy = s.txBusy := by simp [tickStep]
@[simp] theorem tickStep_txLen : (tickStep c p s).txLen = s.txLen := by simp [tickStep]
@[simp] theorem tickStep_frameValid : (tickStep c p s).frameValid = s.frameValid := by
  simp [tickStep]
@[simp] theorem tickStep_chScaled : (tickStep c p s).chScaled = s.chScaled := by simp [tickStep]

end

/-- R77: `SNAP_CNT` counts modulo 20, which fits its 5 bits. -/
theorem tickStep_snapCnt_toNat (p : BitVec 8) (s : State) :
    (tickStep Config.jic p s).snapCnt.toNat = (s.snapCnt.toNat + 1) % 20 := by
  simp only [tickStep_snapCnt, nextCount, jic_snapPeriod, BitVec.toNat_ofNat]
  omega

/-- R77: `REPOLL_CNT` counts modulo 100, which fits its 7 bits. -/
theorem tickStep_repollCnt_toNat (p : BitVec 8) (s : State) :
    (tickStep Config.jic p s).repollCnt.toNat = (s.repollCnt.toNat + 1) % 100 := by
  simp only [tickStep_repollCnt, nextCount, jic_repollPeriod, BitVec.toNat_ofNat]
  omega

/-- A tick is taken in RUN only, so R41 (b) does not speak of its result; the two counters stay in
phase because 20 divides 100. -/
theorem tickStep_legal (p : BitVec 8) (h : s.Legal) (hrun : s.mode = .run) :
    (tickStep Config.jic p s).Legal where
  debRange i := Nat.le_of_lt_succ ((tickStep Config.jic p s).debRemain[i]).isLt
  snapRange := by
    rw [tickStep_snapCnt_toNat]
    exact Nat.mod_lt _ (by decide)
  repollRange := by
    rw [tickStep_repollCnt_toNat]
    exact Nat.mod_lt _ (by decide)
  phase := by
    have hphase : s.repollCnt.toNat % 20 = s.snapCnt.toNat := h.phase
    rw [tickStep_snapCnt_toNat, tickStep_repollCnt_toNat, jic_snapPeriod]
    omega
  calCount := by simp [hrun]
  calIdle := by simp [hrun]
  calButtons := by simp [hrun]
  calSums := by simp [hrun]
  runCount := by simpa using h.runCount
  owned := by simpa using h.owned
  scaledRange := by simpa using h.scaledRange

/-! ### A calibration reading -/

/-- R30: while the bound on the sums holds, a reading adds to them without overflow, since 32
readings fit in 32 bits and `CAL_COUNT` counts no further. -/
theorem addReading_calSum_le (r : PerChannel (BitVec 16))
    (hsums : ∀ ch : Fin 4, s.calSum[ch].toNat ≤ s.calCount.toNat * 65535) (ch : Fin 4) :
    ((addReading r s).calSum[ch]).toNat ≤ (s.calCount.toNat + 1) * 65535 := by
  have hsum := hsums ch
  have hread : (sampleToSum r[ch]).toNat ≤ 65535 := by
    have := r[ch].isLt
    simp only [sampleToSum, BitVec.toNat_setWidth]
    omega
  have hget : (addReading r s).calSum[ch] = s.calSum[ch] + sampleToSum r[ch] := by simp
  rw [hget, BitVec.toNat_add]
  omega

theorem addReading_legal (r : PerChannel (BitVec 16)) (h : s.Legal) (hcal : s.mode = .cal)
    (hmore : (s.calCount + 1#5).toNat ≠ 20) : (addReading r s).Legal :=
  have hcount : s.calCount.toNat < 20 := h.calCount hcal
  have hnext : (addReading r s).calCount.toNat = s.calCount.toNat + 1 := by
    rw [addReading_calCount, BitVec.toNat_add]
    simp only [BitVec.toNat_ofNat]
    omega
  { h with
    calCount := fun _ => by
      have hne : (addReading r s).calCount.toNat ≠ 20 := hmore
      rw [jic_calSamples]
      omega
    calSums := fun _ ch => by
      rw [hnext]
      exact addReading_calSum_le r (h.calSums hcal) ch
    runCount := by simp [hcal] }

/-- The last reading enters RUN with both counters at 0 (R89). -/
theorem calEnd_addReading_legal (r : PerChannel (BitVec 16)) (h : s.Legal)
    (hlast : (s.calCount + 1#5).toNat = 20) : (calEnd Config.jic (addReading r s)).Legal :=
  { h with
    snapRange := by simp
    repollRange := by simp
    phase := by simp
    calCount := by simp
    calIdle := by simp
    calButtons := by simp
    calSums := by simp
    runCount := fun _ => hlast }

theorem calAccumulate_legal (r : PerChannel (BitVec 16)) (h : s.Legal) (hcal : s.mode = .cal) :
    (calAccumulate Config.jic r s).Legal := by
  rcases calAccumulate_cases Config.jic r s with ⟨hmore, hadd⟩ | ⟨hlast, hend⟩
  · rw [hadd]
    exact addReading_legal r h hcal hmore
  · rw [hend]
    exact calEnd_addReading_legal r h hlast

/-! ### A conversion -/

theorem scaleStep_legal (r : PerChannel (BitVec 16)) (h : s.Legal) :
    (scaleStep Config.jic r s).Legal :=
  { h with
    scaledRange := fun _ ch => by
      have := scaleStep_chScaled_range r s ch
      omega }

theorem consumeRequest_legal (h : s.Legal) : (consumeRequest s).Legal :=
  { h with
    calIdle := fun hcal =>
      have ⟨_, htx, hvalid⟩ := h.calIdle hcal
      ⟨rfl, htx, hvalid⟩ }

theorem commit_legal (c : Config) (h : s.Legal) (hrun : s.mode = .run)
    (hscaled : ∀ ch : Fin 4, s.chScaled[ch].toInt.natAbs ≤ 3199) : (commit c s).Legal :=
  { h with
    calIdle := by simp [hrun]
    owned := fun hbusy => ⟨rfl, (h.owned hbusy).2⟩
    scaledRange := fun _ ch => by
      have : ((commit c s).chScaled[ch]).toInt.natAbs ≤ 3199 := hscaled ch
      omega }

/-- R41 (d): the packet of a frame in range has 21 to 37 bytes (R70). -/
theorem sendPacket_legal (h : s.Legal) (hrun : s.mode = .run) (hvalid : s.frameValid = true)
    (haxes : ∀ k : Fin 4, s.frame.ax[k].toInt.natAbs ≤ 3199) : (sendPacket s).Legal where
  debRange := by simpa using h.debRange
  snapRange := by simpa using h.snapRange
  repollRange := by simpa using h.repollRange
  phase := by simpa using h.phase
  calCount := by simp [hrun]
  calIdle := by simp [hrun]
  calButtons := by simp [hrun]
  calSums := by simp [hrun]
  runCount := by simpa using h.runCount
  owned _ := by
    have hlen := length_render_range haxes
    rw [sendPacket_txLen_toNat hlen.2, sendPacket_frameValid]
    exact ⟨hvalid, hlen⟩
  scaledRange := by simpa using h.scaledRange

theorem handoff_legal (h : s.Legal) (hrun : s.mode = .run) (hvalid : s.frameValid = true)
    (haxes : ∀ k : Fin 4, s.frame.ax[k].toInt.natAbs ≤ 3199) : (handoff s).Legal := by
  rcases handoff_cases s with ⟨-, hkept⟩ | ⟨-, hsent⟩
  · rwa [hkept]
  · rw [hsent]
    exact sendPacket_legal h hrun hvalid haxes

theorem conversionStep_legal (r : PerChannel (BitVec 16)) (h : s.Legal) (hrun : s.mode = .run) :
    (conversionStep Config.jic r s).Legal := by
  have hscaled := scaleStep_chScaled_range r s
  have hcommit := commit_legal Config.jic (consumeRequest_legal (scaleStep_legal r h)) hrun hscaled
  exact handoff_legal hcommit hrun rfl (axisVector_range Config.jic hscaled)

/-! ### Every event and every step -/

theorem exec_legal {i : Instr} {t : State} (h : s.Legal) (hexec : exec i s = .next t) :
    t.Legal := by
  cases i with
  | edge ch =>
    rcases execEdge_next hexec with ⟨-, rfl⟩ | ⟨-, rfl⟩
    · exact h
    · exact latchEdge_legal ch h
  | tick p =>
    rcases execTick_next hexec with ⟨-, rfl⟩ | ⟨hrun, -, rfl⟩
    · exact h
    · exact tickStep_legal p h hrun
  | convDone r0 r1 r2 r3 =>
    rcases execConvDone_next hexec with ⟨-, rfl⟩ | ⟨hcal, -, rfl⟩ | ⟨hrun, -, -, rfl⟩ | ⟨-, -, -, rfl⟩
    · exact h
    · exact calAccumulate_legal _ h hcal
    · exact conversionStep_legal _ h hrun
    · exact h
  | txDone =>
    rcases execTxDone_next hexec with ⟨-, rfl⟩ | ⟨-, rfl⟩
    · exact h
    · exact releaseBuffer_legal h
  | platformFault =>
    rcases execPlatformFault_next hexec with ⟨-, rfl⟩ | ⟨-, rfl⟩
    · exact h
    · exact halt_legal h
  | reset =>
    obtain rfl := execReset_next hexec
    exact resetFields_legal s

end

/-- Settles O56: fetching changes no field that R41 speaks of, and each event keeps the
invariants. -/
theorem everyStepKeepsLegal : Obligations.EveryStepKeepsLegal := by
  intro s t h hstep
  rcases step_next hstep with ⟨i, s', hfetch, hexec⟩ | ⟨-, rfl⟩
  · obtain ⟨rest, -, rfl⟩ := fetch_event_iff.1 hfetch
    exact exec_legal (consume_legal rest h) hexec
  · exact h

end Sys2Proof.Machine
end

section
/-! PROOF. The decoder and the encoder agree (30_encoding.md R56 to R64). -/

namespace Sys2Proof

/-! ### The fields of a word -/

theorem codeField_eq_iff (w : Word) (c : BitVec 4) :
    codeField w = c ↔ w.toNat / 4096 = c.toNat := by
  have := w.isLt
  rw [← BitVec.toNat_inj, codeField, BitVec.extractLsb'_toNat, Nat.shiftRight_eq_div_pow]
  omega

theorem opndField_eq_zero_iff (w : Word) : opndField w = 0#12 ↔ w.toNat % 4096 = 0 := by
  rw [← BitVec.toNat_inj, opndField, BitVec.extractLsb'_toNat]
  simp

/-- The bits of an EDGE word between its code and its channel (R58). -/
theorem edgeZeros_iff (w : Word) : w.extractLsb' 3 9 = 0#9 ↔ w.toNat % 4096 / 8 = 0 := by
  rw [← BitVec.toNat_inj, BitVec.extractLsb'_toNat, Nat.shiftRight_eq_div_pow, BitVec.toNat_ofNat]
  omega

/-- The bits of a TICK word between its code and its levels (R59). -/
theorem tickZeros_iff (w : Word) : w.extractLsb' 8 4 = 0#4 ↔ w.toNat % 4096 / 256 = 0 := by
  rw [← BitVec.toNat_inj, BitVec.extractLsb'_toNat, Nat.shiftRight_eq_div_pow, BitVec.toNat_ofNat]
  omega

theorem edgeChannel_val (w : Word) : (edgeChannel w).val = w.toNat % 8 := by
  simp [edgeChannel]

theorem tickLevels_toNat (w : Word) : (tickLevels w).toNat = w.toNat % 256 := by
  simp [tickLevels]

/-- A word is known from its code and its operand bits (R56). -/
theorem word_eq_ofNat {w : Word} {code opnd : Nat} (hcode : w.toNat / 4096 = code)
    (hopnd : w.toNat % 4096 = opnd) : w = BitVec.ofNat 16 (0x1000 * code + opnd) := by
  rw [← BitVec.toNat_inj, BitVec.toNat_ofNat]
  omega

/-! ### Decoding an encoding -/

theorem toNat_edgeWord (ch : Fin 8) :
    (BitVec.ofNat 16 (0x1000 + ch.val)).toNat = 0x1000 + ch.val := by
  rw [BitVec.toNat_ofNat]
  omega

theorem toNat_tickWord (p : BitVec 8) :
    (BitVec.ofNat 16 (0x2000 + p.toNat)).toNat = 0x2000 + p.toNat := by
  rw [BitVec.toNat_ofNat]
  omega

theorem decodeRecord_edgeWord (ch : Fin 8) (rest : List Word) :
    decodeRecord (BitVec.ofNat 16 (0x1000 + ch.val)) rest = .ok (.edge ch, rest) := by
  have hcode : codeField (BitVec.ofNat 16 (0x1000 + ch.val)) = 1#4 := by
    rw [codeField_eq_iff, toNat_edgeWord, BitVec.toNat_ofNat]
    omega
  have hzeros : (BitVec.ofNat 16 (0x1000 + ch.val)).extractLsb' 3 9 = 0#9 := by
    rw [edgeZeros_iff, toNat_edgeWord]
    omega
  have hch : edgeChannel (BitVec.ofNat 16 (0x1000 + ch.val)) = ch := by
    rw [Fin.ext_iff, edgeChannel_val, toNat_edgeWord]
    omega
  simp [decodeRecord, hcode, hzeros, hch]

theorem decodeRecord_tickWord (p : BitVec 8) (rest : List Word) :
    decodeRecord (BitVec.ofNat 16 (0x2000 + p.toNat)) rest = .ok (.tick p, rest) := by
  have hcode : codeField (BitVec.ofNat 16 (0x2000 + p.toNat)) = 2#4 := by
    rw [codeField_eq_iff, toNat_tickWord, BitVec.toNat_ofNat]
    omega
  have hzeros : (BitVec.ofNat 16 (0x2000 + p.toNat)).extractLsb' 8 4 = 0#4 := by
    rw [tickZeros_iff, toNat_tickWord]
    omega
  have hlevels : tickLevels (BitVec.ofNat 16 (0x2000 + p.toNat)) = p := by
    rw [← BitVec.toNat_inj, tickLevels_toNat, toNat_tickWord]
    omega
  simp [decodeRecord, hcode, hzeros, hlevels]

theorem decode_encode_append (i : Instr) (rest : List Word) :
    decode (encode i ++ rest) = .ok (i, rest) := by
  cases i with
  | edge ch => exact decodeRecord_edgeWord ch rest
  | tick p => exact decodeRecord_tickWord p rest
  | convDone r0 r1 r2 r3 => rfl
  | txDone => rfl
  | platformFault => rfl
  | reset => rfl

/-! ### What decodes is an encoding -/

/-- The bits an event does not use are checked to be 0 and the others are its operand, so the event
word is known again from the event (R56, R62). -/
theorem eq_encode_append_of_decodeRecord {w : Word} {ws rest : List Word} {i : Instr}
    (h : decodeRecord w ws = .ok (i, rest)) : w :: ws = encode i ++ rest := by
  unfold decodeRecord at h
  simp only [codeField_eq_iff, opndField_eq_zero_iff, edgeZeros_iff, tickZeros_iff] at h
  split_ifs at h
  next hcode hzero =>
    cases h
    exact congrArg (· :: ws) (word_eq_ofNat hcode hzero)
  next hcode hzeros =>
    cases h
    have hopnd : w.toNat % 4096 = (edgeChannel w).val := by
      rw [edgeChannel_val]
      omega
    exact congrArg (· :: ws) (word_eq_ofNat hcode hopnd)
  next hcode hzeros =>
    cases h
    have hopnd : w.toNat % 4096 = (tickLevels w).toNat := by
      rw [tickLevels_toNat]
      omega
    exact congrArg (· :: ws) (word_eq_ofNat hcode hopnd)
  next hcode hzero =>
    split at h
    · cases h
      exact congrArg (· :: _) (word_eq_ofNat hcode hzero)
    · cases h
  next => split at h <;> cases h
  next hcode hzero =>
    cases h
    exact congrArg (· :: ws) (word_eq_ofNat hcode hzero)
  next hcode hzero =>
    cases h
    exact congrArg (· :: ws) (word_eq_ofNat hcode hzero)

theorem eq_encode_append_of_decode {ws rest : List Word} {i : Instr}
    (h : decode ws = .ok (i, rest)) : ws = encode i ++ rest := by
  cases ws with
  | nil => cases h
  | cons w ws => exact eq_encode_append_of_decodeRecord h

end Sys2Proof
end

section
/-! PROOF. Stepping through event words is running the events in order (20_memory.md R47,
30_encoding.md R63): no event reads the words that wait after it. -/

namespace Sys2Proof.Machine

/-! ### Every event answers a next state -/

theorem ite_exists_next {b : Bool} {o o' : Host.Outcome State Fault Refusal}
    (h : ∃ t, o = .next t) (h' : ∃ t, o' = .next t) : ∃ t, (if b then o else o') = .next t := by
  cases b
  · exact h'
  · exact h

theorem exec_exists_next (i : Instr) (s : State) : ∃ t, exec i s = .next t := by
  cases i with
  | edge ch => exact ite_exists_next ⟨_, rfl⟩ ⟨_, rfl⟩
  | tick p => exact ite_exists_next ⟨_, rfl⟩ ⟨_, rfl⟩
  | convDone r0 r1 r2 r3 => exact ite_exists_next ⟨_, rfl⟩ (ite_exists_next ⟨_, rfl⟩ ⟨_, rfl⟩)
  | txDone => exact ite_exists_next ⟨_, rfl⟩ ⟨_, rfl⟩
  | platformFault => exact ite_exists_next ⟨_, rfl⟩ ⟨_, rfl⟩
  | reset => exact ⟨_, rfl⟩

/-- A property that each event of a sequence keeps holds of the state the sequence ends in. -/
theorem runEvents_preserves (P : State → Prop) {is : List Instr} {s : State}
    (hkeeps : ∀ e ∈ is, ∀ s t, P s → exec e s = .next t → P t) (hs : P s) :
    ∃ t, runEvents is s = .next t ∧ P t := by
  induction is generalizing s with
  | nil => exact ⟨s, rfl, hs⟩
  | cons e is ih =>
    obtain ⟨s', hexec⟩ := exec_exists_next e s
    have hs' : P s' := hkeeps e List.mem_cons_self s s' hs hexec
    rw [runEvents_cons hexec]
    exact ih (fun e' he' => hkeeps e' (List.mem_cons_of_mem e he')) hs'

theorem runEvents_exists_next (is : List Instr) (s : State) : ∃ t, runEvents is s = .next t := by
  obtain ⟨t, hrun, -⟩ : ∃ t, runEvents is s = .next t ∧ True :=
    runEvents_preserves (fun _ => True) (fun _ _ _ _ _ _ => trivial) trivial
  exact ⟨t, hrun⟩

/-! ### The words that wait -/

/-- The state with other words presented, from another position. -/
def State.withStream (ws : List Word) (pos : Nat) (s : State) : State :=
  { s with stream := ws, pos := pos }

@[simp] theorem State.withStream_withStream (ws ws' : List Word) (n n' : Nat) (s : State) :
    (s.withStream ws n).withStream ws' n' = s.withStream ws' n' := rfl

section
variable (ws : List Word) (n : Nat)

theorem State.withStream_ite (b : Bool) (s t : State) :
    (if b then s else t).withStream ws n = if b then s.withStream ws n else t.withStream ws n :=
  apply_ite (State.withStream ws n) (b = true) s t

theorem repollStep_withStream (p : BitVec 8) (s : State) :
    repollStep p (s.withStream ws n) = (repollStep p s).withStream ws n := by
  unfold repollStep
  rw [State.withStream_ite]
  rfl

theorem boundaryStep_withStream (s : State) :
    boundaryStep (s.withStream ws n) = (boundaryStep s).withStream ws n := by
  unfold boundaryStep
  rw [State.withStream_ite]
  rfl

theorem tickStep_withStream (c : Config) (p : BitVec 8) (s : State) :
    tickStep c p (s.withStream ws n) = (tickStep c p s).withStream ws n := by
  unfold tickStep
  rw [← boundaryStep_withStream, ← repollStep_withStream]
  rfl

theorem calAccumulate_withStream (c : Config) (r : PerChannel (BitVec 16)) (s : State) :
    calAccumulate c r (s.withStream ws n) = (calAccumulate c r s).withStream ws n := by
  unfold calAccumulate
  rw [State.withStream_ite]
  rfl

theorem sendPacket_withStream (s : State) :
    sendPacket (s.withStream ws n) = (sendPacket s).withStream ws n := by
  unfold sendPacket
  rfl

theorem handoff_withStream (s : State) :
    handoff (s.withStream ws n) = (handoff s).withStream ws n := by
  unfold handoff
  rw [State.withStream_ite, ← sendPacket_withStream]
  rfl

theorem conversionStep_withStream (c : Config) (r : PerChannel (BitVec 16)) (s : State) :
    conversionStep c r (s.withStream ws n) = (conversionStep c r s).withStream ws n := by
  unfold conversionStep
  rw [← handoff_withStream]
  rfl

/-- An outcome whose state has other words presented. -/
def withStreamOutcome :
    Host.Outcome State Fault Refusal → Host.Outcome State Fault Refusal
  | .next s => .next (s.withStream ws n)
  | .fault f => .fault f
  | .refused r => .refused r

theorem withStreamOutcome_ite (b : Bool) (o o' : Host.Outcome State Fault Refusal) :
    withStreamOutcome ws n (if b then o else o') =
      if b then withStreamOutcome ws n o else withStreamOutcome ws n o' :=
  apply_ite (withStreamOutcome ws n) (b = true) o o'

/-- An event reads and writes neither the words presented nor their position. -/
theorem exec_withStream (i : Instr) (s : State) :
    exec i (s.withStream ws n) = withStreamOutcome ws n (exec i s) := by
  cases i with
  | edge ch =>
    rw [exec, exec, execEdge, execEdge, withStreamOutcome_ite]
    rfl
  | tick p =>
    rw [exec, exec, execTick, execTick, withStreamOutcome_ite, tickStep_withStream]
    rfl
  | convDone r0 r1 r2 r3 =>
    rw [exec, exec, execConvDone, execConvDone, withStreamOutcome_ite, withStreamOutcome_ite,
      calAccumulate_withStream, conversionStep_withStream]
    rfl
  | txDone =>
    rw [exec, exec, execTxDone, execTxDone, withStreamOutcome_ite]
    rfl
  | platformFault =>
    rw [exec, exec, execPlatformFault, execPlatformFault, withStreamOutcome_ite]
    rfl
  | reset => rfl

theorem runEvents_withStream (is : List Instr) (s : State) :
    runEvents is (s.withStream ws n) = withStreamOutcome ws n (runEvents is s) := by
  induction is generalizing s with
  | nil => rfl
  | cons i is ih =>
    obtain ⟨t, hexec⟩ := exec_exists_next i s
    have hexec' : exec i (s.withStream ws n) = .next (t.withStream ws n) := by
      rw [exec_withStream, hexec]
      rfl
    rw [runEvents_cons hexec, runEvents_cons hexec', ih]

end

/-! ### Stepping -/

/-- Settles O7: the words left over are those after the event's own, so the position moves by their
number. -/
theorem stepRunsTheDecodedEvent : Obligations.StepRunsTheDecodedEvent := by
  intro s i rest hdecode
  have hlen : s.stream.length - rest.length = (encode i).length := by
    rw [eq_encode_append_of_decode hdecode, List.length_append]
    omega
  rw [step_event (fetch_event_iff.2 ⟨rest, hdecode, rfl⟩), State.consume, hlen]

/-- One step at an event's words: the event, with its words consumed. -/
theorem step_encode_append {i : Instr} {rest : List Word} {s t : State}
    (hstream : s.stream = encode i ++ rest) (hexec : exec i s = .next t) :
    step s = .next (t.withStream rest (s.pos + (encode i).length)) := by
  have hdecode : decode s.stream = .ok (i, rest) := by rw [hstream, decode_encode_append]
  calc step s = exec i (s.withStream rest (s.pos + (encode i).length)) :=
        stepRunsTheDecodedEvent s i rest hdecode
    _ = .next (t.withStream rest (s.pos + (encode i).length)) := by
        rw [exec_withStream, hexec, withStreamOutcome]

theorem core_run_succ {k : Nat} {s s' : State} (h : step s = .next s') :
    Host.Core.run Sys2Proof.core (k + 1) s = Host.Core.run Sys2Proof.core k s' := by
  have hcore : Sys2Proof.core.step s = .next s' := h
  simp only [Host.Core.run, hcore]

/-- The machine at the words of a sequence of events follows the events, one step for each. -/
theorem core_run_encodeAll {is : List Instr} {s t : State} {ws : List Word}
    (hstream : s.stream = encodeAll is ++ ws) (hrun : runEvents is s = .next t) :
    Host.Core.run Sys2Proof.core is.length s =
      .next (t.withStream ws (s.pos + (encodeAll is).length)) := by
  induction is generalizing s t with
  | nil =>
    obtain rfl : s = t := by simpa [runEvents_nil] using hrun
    have hws : s.stream = ws := hstream
    rw [← hws]
    rfl
  | cons i is ih =>
    obtain ⟨s', hexec, hrest⟩ := runEvents_cons_next hrun
    have hhead : s.stream = encode i ++ (encodeAll is ++ ws) := by
      rw [hstream, encodeAll, List.append_assoc]
    rw [List.length_cons, core_run_succ (step_encode_append hhead hexec),
      ih rfl (by rw [runEvents_withStream, hrest, withStreamOutcome]),
      State.withStream_withStream, encodeAll, List.length_append, ← Nat.add_assoc]
    rfl

/-- Settles O9: the events complete, and the words that wait are no part of what they do. -/
theorem steppingWordsRefinesRunningEvents : Obligations.SteppingWordsRefinesRunningEvents := by
  intro is s ws hstream
  obtain ⟨t, hrun⟩ := runEvents_exists_next is s
  exact ⟨t, hrun, core_run_encodeAll hstream hrun⟩

end Sys2Proof.Machine
end

section
/-! PROOF. A receiver reads a rendered packet back (30_encoding.md R67 to R69, 42_packet_assembler.md
R103 to R105). -/

namespace Sys2Proof.Machine

/-! ### Characters -/

theorem digitChar_toNat {d : Nat} (hd : d < 10) : (digitChar d).toNat = 0x30 + d := by
  rw [digitChar, BitVec.toNat_ofNat]
  omega

theorem digitValue_digitChar {d : Nat} (hd : d < 10) : digitValue (digitChar d) = some d := by
  rw [digitValue, digitChar_toNat hd, if_pos ⟨by omega, by omega⟩, Nat.add_sub_cancel_left]

theorem digitChar_ne_zeroChar {d : Nat} (hpos : 0 < d) (hd : d < 10) :
    digitChar d ≠ digitChar 0 := by
  rw [← BitVec.toNat_ne_iff_ne, digitChar_toNat hd, digitChar_toNat (by decide)]
  omega

theorem digitChar_ne_minus {d : Nat} (hd : d < 10) : digitChar d ≠ chMinus := by
  rw [← BitVec.toNat_ne_iff_ne, digitChar_toNat hd, chMinus, BitVec.toNat_ofNat]
  omega

theorem digitChar_ne_comma {d : Nat} (hd : d < 10) : digitChar d ≠ chComma := by
  rw [← BitVec.toNat_ne_iff_ne, digitChar_toNat hd, chComma, BitVec.toNat_ofNat]
  omega

/-! ### Buttons -/

theorem btnField_btnChar (b : Bool) : btnField (btnChar b) = some b := by
  cases b <;> rfl

theorem buttonFields_btnChar (btn : PerButton Bool) :
    buttonFields (btnChar btn[0]) (btnChar btn[1]) (btnChar btn[2]) (btnChar btn[3])
      (btnChar btn[4]) (btnChar btn[5]) (btnChar btn[6]) (btnChar btn[7]) = some btn := by
  simp only [buttonFields, btnField_btnChar, Option.some.injEq]
  ext i hi
  interval_cases i <;> rfl

/-! ### Decimal numbers -/

theorem digitsValue_append_digitChar {acc n d : Nat} {bs : List Byte}
    (h : digitsValue acc bs = some n) (hd : d < 10) :
    digitsValue acc (bs ++ [digitChar d]) = some (n * 10 + d) := by
  induction bs generalizing acc with
  | nil =>
    obtain rfl : acc = n := by simpa [digitsValue] using h
    simp [digitsValue, digitValue_digitChar hd]
  | cons b bs ih =>
    cases hb : digitValue b with
    | none => simp [digitsValue, hb] at h
    | some e =>
      simp only [digitsValue, hb] at h
      simpa [digitsValue, hb] using ih h

/-- The digits of a number that has no more than `fuel` of them have its value. -/
theorem digitsValue_decDigits {fuel n : Nat} (hn : n < 10 ^ fuel) :
    digitsValue 0 (decDigits fuel n) = some n := by
  induction fuel generalizing n with
  | zero =>
    obtain rfl : n = 0 := by omega
    rfl
  | succ fuel ih =>
    rw [decDigits]
    split
    next hsmall => simp [digitsValue, digitValue_digitChar hsmall]
    next =>
      have hdiv : n / 10 < 10 ^ fuel := Nat.div_lt_of_lt_mul (by rwa [← Nat.pow_succ'])
      rw [digitsValue_append_digitChar (ih hdiv) (Nat.mod_lt n (by decide)), Nat.div_add_mod']

/-- A positive number has no leading zero (R67). -/
theorem decDigits_head {fuel n : Nat} (hpos : 0 < n) (hn : n < 10 ^ fuel) :
    ∃ d bs, 0 < d ∧ d < 10 ∧ decDigits fuel n = digitChar d :: bs := by
  induction fuel generalizing n with
  | zero => omega
  | succ fuel ih =>
    rw [decDigits]
    split
    next hsmall => exact ⟨n, [], hpos, hsmall, rfl⟩
    next hbig =>
      have hdiv : n / 10 < 10 ^ fuel := Nat.div_lt_of_lt_mul (by rwa [← Nat.pow_succ'])
      obtain ⟨d, bs, hd0, hd, hbs⟩ := ih (by omega) hdiv
      exact ⟨d, bs ++ [digitChar (n % 10)], hd0, hd, by rw [hbs, List.cons_append]⟩

theorem mem_decDigits {fuel n : Nat} {b : Byte} (hb : b ∈ decDigits fuel n) :
    ∃ d < 10, b = digitChar d := by
  induction fuel generalizing n with
  | zero => simp [decDigits] at hb
  | succ fuel ih =>
    rw [decDigits] at hb
    split at hb
    next hsmall => exact ⟨n, hsmall, List.mem_singleton.1 hb⟩
    next =>
      rcases List.mem_append.1 hb with hb | hb
      · exact ih hb
      · exact ⟨n % 10, Nat.mod_lt n (by decide), List.mem_singleton.1 hb⟩

theorem natField_decDigits {fuel n : Nat} (hpos : 0 < n) (hn : n < 10 ^ fuel) :
    natField (decDigits fuel n) = some n := by
  obtain ⟨d, bs, hd0, hd, hbs⟩ := decDigits_head hpos hn
  rw [← digitsValue_decDigits hn, hbs, natField, if_neg (digitChar_ne_zeroChar hd0 hd)]

/-- Every 16-bit value has at most five digits. -/
theorem signedField_dec {v : Int} (hv : v.natAbs < 10 ^ 5) : signedField (dec v) = some v := by
  rcases lt_trichotomy v 0 with hneg | rfl | hpos
  · have hfield : natField (decDigits 5 v.natAbs) = some v.natAbs :=
      natField_decDigits (by omega) hv
    rw [dec, if_neg hneg.ne, if_pos hneg, signedField, if_pos rfl, hfield]
    show some (-(v.natAbs : Int)) = some v
    rw [Option.some_inj]
    omega
  · rfl
  · have hfield : natField (decDigits 5 v.natAbs) = some v.natAbs :=
      natField_decDigits (by omega) hv
    obtain ⟨d, bs, hd0, hd, hbs⟩ := decDigits_head (Int.natAbs_pos.2 hpos.ne') hv
    rw [dec, if_neg hpos.ne', if_neg hpos.le.not_gt, hbs, signedField,
      if_neg (digitChar_ne_minus hd), if_neg fun h => digitChar_ne_zeroChar hd0 hd h.1, ← hbs,
      hfield]
    show some (v.natAbs : Int) = some v
    rw [Option.some_inj]
    omega

theorem intField_dec {v : Int} (hv : v.natAbs ≤ 3199) : intField (dec v) = some v := by
  have hfield : signedField (dec v) = some v := signedField_dec (by omega)
  rw [intField, hfield]
  exact if_pos hv

theorem mem_dec {v : Int} {b : Byte} (hb : b ∈ dec v) :
    b = chMinus ∨ ∃ d < 10, b = digitChar d := by
  unfold dec at hb
  split_ifs at hb
  · exact .inr ⟨0, by decide, List.mem_singleton.1 hb⟩
  · exact (List.mem_cons.1 hb).imp_right mem_decDigits
  · exact .inr (mem_decDigits hb)

theorem comma_notMem_dec (v : Int) : chComma ∉ dec v := by
  intro hmem
  rcases mem_dec hmem with h | ⟨d, hd, h⟩
  · exact absurd h (by decide)
  · exact digitChar_ne_comma hd h.symm

/-! ### The four numbers -/

theorem splitComma_append_comma {f : List Byte} (hf : chComma ∉ f) (rest : List Byte) :
    splitComma (f ++ chComma :: rest) = f :: splitComma rest := by
  induction f with
  | nil => simp [splitComma]
  | cons b f ih =>
    obtain ⟨hb, hf⟩ := not_or.1 (mt List.mem_cons.2 hf)
    rw [List.cons_append, splitComma, if_neg (Ne.symm hb), ih hf]

theorem splitComma_of_notMem {f : List Byte} (hf : chComma ∉ f) : splitComma f = [f] := by
  induction f with
  | nil => rfl
  | cons b f ih =>
    obtain ⟨hb, hf⟩ := not_or.1 (mt List.mem_cons.2 hf)
    rw [splitComma, if_neg (Ne.symm hb), ih hf]

theorem splitComma_renderAxes (ax : PerChannel (BitVec 16)) :
    splitComma (renderAxes ax) =
      [dec ax[0].toInt, dec ax[1].toInt, dec ax[2].toInt, dec ax[3].toInt] := by
  simp only [renderAxes, List.append_assoc, List.cons_append, List.nil_append,
    splitComma_append_comma (comma_notMem_dec _), splitComma_of_notMem (comma_notMem_dec _)]

theorem axisFields_dec {ax : PerChannel (BitVec 16)}
    (h : ∀ k : Fin 4, ax[k].toInt.natAbs ≤ 3199) :
    axisFields [dec ax[0].toInt, dec ax[1].toInt, dec ax[2].toInt, dec ax[3].toInt] = some ax := by
  have h0 : intField (dec ax[0].toInt) = some ax[0].toInt := intField_dec (h 0)
  have h1 : intField (dec ax[1].toInt) = some ax[1].toInt := intField_dec (h 1)
  have h2 : intField (dec ax[2].toInt) = some ax[2].toInt := intField_dec (h 2)
  have h3 : intField (dec ax[3].toInt) = some ax[3].toInt := intField_dec (h 3)
  simp only [axisFields, h0, h1, h2, h3, BitVec.ofInt_toInt, Option.some.injEq]
  ext i hi
  interval_cases i <;> rfl

/-! ### The packet -/

theorem parsePacket_render {f : Frame} (h : ∀ k : Fin 4, f.ax[k].toInt.natAbs ≤ 3199) :
    parsePacket (render f) = some f := by
  have hlast : (renderAxes f.ax ++ [chNewline]).getLast? = some chNewline :=
    List.getLast?_concat
  have hbuttons := buttonFields_btnChar f.btn
  have haxes : axisFields (splitComma (renderAxes f.ax)) = some f.ax := by
    rw [splitComma_renderAxes, axisFields_dec h]
  simp [render, renderButtons, parsePacket, hlast, hbuttons, haxes]

end Sys2Proof.Machine
end

section
/-! PROOF. The buffer that the transport owns stays a packet of the grammar (20_memory.md R49). -/

namespace Sys2Proof.Machine

/-- R106: the bytes of the packet are written from byte 0 on. -/
theorem packetBuffer_take {b : List Byte} (hlen : b.length ≤ 37) (free : TxBytes) :
    (packetBuffer b free).toList.take b.length = b := by
  apply List.ext_getElem
  · simpa using hlen
  · intro k _ hk
    rw [List.getElem_take, Vector.getElem_toList]
    exact packetBuffer_get hk (hk.trans_le hlen) free

section
variable {s : State}

theorem packetIntact_of_idle (h : s.txBusy = false) : s.PacketIntact := by
  simp [State.PacketIntact, h]

/-- The packet of a frame in range is one of the grammar, so a hand-off makes the buffer one
whatever it held. -/
theorem sendPacket_packetIntact (haxes : ∀ k : Fin 4, s.frame.ax[k].toInt.natAbs ≤ 3199) :
    (sendPacket s).PacketIntact := by
  intro _
  have hlen : (render s.frame).length ≤ 37 := (length_render_range haxes).2
  rw [sendPacket_txLen_toNat hlen, sendPacket_txBuf, packetBuffer_take hlen,
    parsePacket_render haxes]
  rfl

/-- A conversion leaves an owned buffer as it is, and fills one that is not owned with a packet. -/
theorem conversionStep_packetIntact (r : PerChannel (BitVec 16)) (h : s.PacketIntact) :
    (conversionStep Config.jic r s).PacketIntact := by
  rcases conversionStep_cases Config.jic r s with ⟨-, hkept⟩ | ⟨-, hsent⟩
  · rw [hkept]
    exact h
  · rw [hsent]
    exact sendPacket_packetIntact (axisVector_range Config.jic (scaleStep_chScaled_range r s))

theorem exec_packetIntact {i : Instr} {t : State} (h : s.PacketIntact)
    (hexec : exec i s = .next t) :
    t.PacketIntact := by
  cases i with
  | edge ch =>
    rw [(execEdge_writers hexec).1]
    exact h
  | tick p =>
    rw [(execTick_writers hexec).1]
    exact h
  | convDone r0 r1 r2 r3 =>
    rcases execConvDone_next hexec with ⟨-, rfl⟩ | ⟨-, -, rfl⟩ | ⟨-, -, -, rfl⟩ | ⟨-, -, -, rfl⟩
    · exact h
    · rw [calAccumulate_eq_update]
      exact h
    · exact conversionStep_packetIntact _ h
    · exact h
  | txDone =>
    rcases execTxDone_next hexec with ⟨-, rfl⟩ | ⟨-, rfl⟩
    · exact h
    · exact packetIntact_of_idle (releaseBuffer_txBusy s)
  | platformFault =>
    rw [(execPlatformFault_writers hexec).1]
    exact h
  | reset =>
    obtain rfl := execReset_next hexec
    exact packetIntact_of_idle (resetFields_txBusy s)

end

/-- Settles O58: consuming words touches no buffer, and each event keeps an owned one intact. -/
theorem everyStepKeepsPacketIntact : Obligations.EveryStepKeepsPacketIntact := by
  intro s t h hstep
  rcases step_next hstep with ⟨i, s', hfetch, hexec⟩ | ⟨-, rfl⟩
  · obtain ⟨rest, -, rfl⟩ := fetch_event_iff.1 hfetch
    have hconsumed : (s.consume rest).PacketIntact := h
    exact exec_packetIntact hconsumed hexec
  · exact h

end Sys2Proof.Machine
end

section
/-! PROOF. A latched edge waits for the next tick (20_memory.md R49, 40_debounce.md R75). -/

namespace Sys2Proof.Machine

/-- In RUN and not halted, with the edge latch of channel `i` set: the next TICK will take it. -/
structure State.EdgeWaits (i : Fin 8) (s : State) : Prop where
  run : s.mode = .run
  running : s.halted = false
  pending : s.edgePending[i] = true

/-- Only a tick consumes a latch, and in RUN only PLATFORM_FAULT and RESET stop the ticks. -/
theorem exec_edgeWaits {i : Fin 8} {e : Instr} {s t : State} (hop : isOperating e = true)
    (htick : isTick e = false) (h : s.EdgeWaits i) (hexec : exec e s = .next t) :
    t.EdgeWaits i := by
  cases e with
  | edge ch =>
    obtain ⟨hframe, hlatches⟩ := execEdge_writers hexec
    rw [hframe]
    exact ⟨h.run, h.running, (hlatches i).1 h.pending⟩
  | tick p => cases htick
  | convDone r0 r1 r2 r3 =>
    rcases execConvDone_next hexec with ⟨-, rfl⟩ | ⟨hcal, -, -⟩ | ⟨-, -, -, rfl⟩ | ⟨-, -, -, rfl⟩
    · exact h
    · exact absurd (hcal.symm.trans h.run) (by decide)
    · rw [conversionStep_eq_update]
      exact ⟨h.run, h.running, h.pending⟩
    · exact h
  | txDone =>
    rw [(execTxDone_writers hexec).1]
    exact ⟨h.run, h.running, h.pending⟩
  | platformFault => cases hop
  | reset => cases hop

/-- A pending latch arms the window at 15 ticks and the same tick counts one of them (R75, R76). -/
theorem tickStep_debRemain_of_pending (p : BitVec 8) {s : State} {i : Fin 8}
    (h : s.edgePending[i] = true) : (tickStep Config.jic p s).debRemain[i] = 14#4 := by
  rw [tickStep_debRemain_get, h, debounceChannel, armWindow_pending, countDown_pos (by decide)]
  rfl

theorem exec_tick_of_run (p : BitVec 8) {s : State} (hrun : s.mode = .run)
    (hrunning : s.halted = false) : exec (.tick p) s = .next (tickStep Config.jic p s) :=
  if_pos ((tickEnabled_iff s).2 ⟨hrun, hrunning⟩)

/-- Settles O23: the latch waits through the events before the tick, and the tick takes it. -/
theorem latchedEdgeReachesTheNextTick : Obligations.LatchedEdgeReachesTheNextTick := by
  intro is p s i hrun hrunning hpending his
  obtain ⟨t, hevents, hwaits⟩ := runEvents_preserves (State.EdgeWaits i)
    (fun e he _ _ => exec_edgeWaits (his e he).1 (his e he).2) ⟨hrun, hrunning, hpending⟩
  exact ⟨t, tickStep Config.jic p t, hevents, hwaits.pending,
    exec_tick_of_run p hwaits.run hwaits.running, tickStep_edgePending_get _ p t i,
    tickStep_debRemain_of_pending p hwaits.pending⟩

end Sys2Proof.Machine
end

section
/-! PROOF. Event words and their bytes: what decodes, what is refused, and how words are stored
(30_encoding.md R56 to R64). -/

namespace Sys2Proof

/-! ### The operand ranges -/

/-- An operand's type holds no value outside the range of R64. -/
theorem Instr.wellFormed_eq_true (i : Instr) : i.wellFormed = true := by
  cases i with
  | edge ch => exact decide_eq_true ch.isLt
  | tick p => exact decide_eq_true p.isLt
  | convDone r0 r1 r2 r3 => exact decide_eq_true ⟨r0.isLt, r1.isLt, r2.isLt, r3.isLt⟩
  | txDone => rfl
  | platformFault => rfl
  | reset => rfl

/-- Settles O1: the operands are in range by their types, and the decoder reads back each field that
the encoder writes. -/
theorem encodedEventsDecodeToThemselves : Obligations.EncodedEventsDecodeToThemselves :=
  fun i rest => ⟨i.wellFormed_eq_true, decode_encode_append i rest⟩

/-- Settles O2: the decoder checks the bits that an event does not use, so the event gives its words
back. -/
theorem decodedWordsAreTheEncoding : Obligations.DecodedWordsAreTheEncoding :=
  fun _ _ _ hdecode => eq_encode_append_of_decode hdecode

/-- Settles O3: each of these words is what the encoder writes for its event. -/
theorem specWordsDecode : Obligations.SpecWordsDecode :=
  ⟨decode_encode_append .reset [], decode_encode_append (.edge 2) [],
    decode_encode_append (.tick 0b11111011#8) [],
    decode_encode_append (.convDone 2048#16 2048#16 2048#16 2048#16) [],
    decode_encode_append .txDone [], decode_encode_append .platformFault []⟩

/-! ### The words that are no event -/

theorem codeField_toNat (w : Word) : (codeField w).toNat = w.toNat / 4096 :=
  ((codeField_eq_iff w _).1 rfl).symm

/-- R62: the codes that no event has. -/
def ReservedCode (w : Word) : Prop :=
  (codeField w).toNat = 0 ∨ (6 ≤ (codeField w).toNat ∧ (codeField w).toNat ≤ 14)

/-- R62: an event's code, with a bit set that must be 0 or with too few words after a CONV_DONE. -/
def IllFormedRecord (w : Word) (rest : List Word) : Prop :=
  ((codeField w).toNat = 1 ∧ w.toNat % 4096 / 8 ≠ 0) ∨
  ((codeField w).toNat = 2 ∧ w.toNat % 4096 / 256 ≠ 0) ∨
  (((codeField w).toNat ∈ [3, 4, 5, 15]) ∧ w.toNat % 4096 ≠ 0) ∨
  ((codeField w).toNat = 3 ∧ rest.length < 4)

theorem ReservedCode.not_illFormedRecord {w : Word} {rest : List Word} (h : ReservedCode w) :
    ¬ IllFormedRecord w rest := by
  simp only [ReservedCode, IllFormedRecord, List.mem_cons, List.not_mem_nil, or_false] at h ⊢
  omega

theorem length_lt_four_of_forall_ne {ws : List Word}
    (h : ∀ r0 r1 r2 r3 rest, ws = r0 :: r1 :: r2 :: r3 :: rest → False) : ws.length < 4 := by
  rcases ws with _ | ⟨r0, _ | ⟨r1, _ | ⟨r2, _ | ⟨r3, rest⟩⟩⟩⟩
  case cons.cons.cons.cons => exact (h r0 r1 r2 r3 rest rfl).elim
  all_goals simp

/-- The decoder answers one error for each kind of word that is no event, and none for the others.
The cases are the tests of R63 in its order: RESET, EDGE, TICK, CONV_DONE, TX_DONE, PLATFORM_FAULT,
each with its bits that must be 0, and then the reserved codes. -/
theorem decodeRecord_cases (w : Word) (rest : List Word) :
    (ReservedCode w ∧ decodeRecord w rest = .error (.reserved w)) ∨
    (IllFormedRecord w rest ∧ decodeRecord w rest = .error (.illFormed w)) ∨
    (¬ ReservedCode w ∧ ¬ IllFormedRecord w rest ∧
      ∃ i rest', decodeRecord w rest = .ok (i, rest')) := by
  have hlt := w.isLt
  simp only [decodeRecord, ReservedCode, IllFormedRecord, codeField_toNat, codeField_eq_iff,
    opndField_eq_zero_iff, edgeZeros_iff, tickZeros_iff, BitVec.toNat_ofNat, List.mem_cons,
    List.not_mem_nil, or_false]
  split_ifs
  · exact .inr (.inr ⟨by omega, by omega, _, _, rfl⟩)
  · exact .inr (.inl ⟨by omega, rfl⟩)
  · exact .inr (.inr ⟨by omega, by omega, _, _, rfl⟩)
  · exact .inr (.inl ⟨by omega, rfl⟩)
  · exact .inr (.inr ⟨by omega, by omega, _, _, rfl⟩)
  · exact .inr (.inl ⟨by omega, rfl⟩)
  · split
    · simp only [List.length_cons]
      exact .inr (.inr ⟨by omega, by omega, _, _, rfl⟩)
    next hshort =>
      have := length_lt_four_of_forall_ne hshort
      exact .inr (.inl ⟨by omega, rfl⟩)
  · split <;> exact .inr (.inl ⟨by omega, rfl⟩)
  · exact .inr (.inr ⟨by omega, by omega, _, _, rfl⟩)
  · exact .inr (.inl ⟨by omega, rfl⟩)
  · exact .inr (.inr ⟨by omega, by omega, _, _, rfl⟩)
  · exact .inr (.inl ⟨by omega, rfl⟩)
  · exact .inl ⟨by omega, rfl⟩

theorem decodeRecord_eq_reserved_iff (w : Word) (rest : List Word) :
    decodeRecord w rest = .error (.reserved w) ↔ ReservedCode w := by
  rcases decodeRecord_cases w rest with ⟨hres, h⟩ | ⟨hill, h⟩ | ⟨hres, -, i, rest', h⟩
  · exact iff_of_true h hres
  · exact iff_of_false (by simp [h]) fun hres => hres.not_illFormedRecord hill
  · exact iff_of_false (by simp [h]) hres

theorem decodeRecord_eq_illFormed_iff (w : Word) (rest : List Word) :
    decodeRecord w rest = .error (.illFormed w) ↔ IllFormedRecord w rest := by
  rcases decodeRecord_cases w rest with ⟨hres, h⟩ | ⟨hill, h⟩ | ⟨-, hill, i, rest', h⟩
  · exact iff_of_false (by simp [h]) hres.not_illFormedRecord
  · exact iff_of_true h hill
  · exact iff_of_false (by simp [h]) hill

/-! ### The rows of the opcode table -/

/-- Under a mask of all but the low `k` bits, a word equals `m` exactly when `m` is the word rounded
down to a multiple of `2 ^ k`. -/
theorem and_highMask_eq_iff {w m : Word} {k : Nat} :
    w &&& BitVec.allOnes 16 <<< k = m ↔ w.toNat / 2 ^ k * 2 ^ k = m.toNat := by
  rw [← BitVec.shiftLeft_ushiftRight, ← BitVec.toNat_inj, BitVec.toNat_shiftLeft,
    BitVec.toNat_ushiftRight, Nat.shiftLeft_eq, Nat.shiftRight_eq_div_pow, Nat.mod_eq_of_lt]
  exact (Nat.div_mul_le_self _ _).trans_lt w.isLt

/-- The six patterns as numbers: the operand bits of EDGE and TICK are free, no other row's are. -/
theorem exists_row_iff (w : Word) :
    (∃ row ∈ opcodeRows, matchesRow w row = true) ↔
      w.toNat / 8 = 0x200 ∨ w.toNat / 256 = 0x20 ∨ w = 0x3000#16 ∨ w = 0x4000#16 ∨
        w = 0x5000#16 ∨ w = 0xF000#16 := by
  have hedge : w &&& 0xFFF8#16 = 0x1000#16 ↔ w.toNat / 8 = 0x200 :=
    (and_highMask_eq_iff (k := 3)).trans (by simp; omega)
  have htick : w &&& 0xFF00#16 = 0x2000#16 ↔ w.toNat / 256 = 0x20 :=
    (and_highMask_eq_iff (k := 8)).trans (by simp; omega)
  have hfull : w &&& 0xFFFF#16 = w := BitVec.and_allOnes
  simp [opcodeRows, matchesRow, hedge, htick, hfull]

theorem codeField_eq_of_matchesRow {w : Word} {row : String × Word × Word}
    (hrow : row ∈ opcodeRows) (h : matchesRow w row = true) : codeField row.2.1 = codeField w := by
  have hmask : ∀ row ∈ opcodeRows, codeField row.2.2 = BitVec.allOnes 4 := by decide
  rw [← of_decide_eq_true h, codeField, BitVec.extractLsb'_and]
  show codeField w &&& codeField row.2.2 = codeField w
  rw [hmask row hrow, BitVec.and_allOnes]

/-- Every row's mask keeps the code, and the rows have six different codes. -/
theorem matchingRows_length_le_one (w : Word) :
    (opcodeRows.filter (matchesRow w)).length ≤ 1 := by
  have hcodes : (opcodeRows.map fun row => codeField row.2.1).Nodup := by decide
  have hsame : (opcodeRows.filter (matchesRow w)).map (fun row => codeField row.2.1) =
      List.replicate (opcodeRows.filter (matchesRow w)).length (codeField w) := by
    refine List.map_eq_replicate_iff.2 fun row hrow => ?_
    obtain ⟨hmem, hmatch⟩ := List.mem_filter.1 hrow
    exact codeField_eq_of_matchesRow hmem hmatch
  rw [← List.nodup_replicate (a := codeField w), ← hsame]
  exact hcodes.sublist (List.filter_sublist.map _)

/-- The records that decode are the encodings. -/
theorem exists_decode_iff (ws : List Word) :
    (∃ i rest, decode ws = .ok (i, rest)) ↔ ∃ i rest, ws = encode i ++ rest := by
  constructor
  · rintro ⟨i, rest, h⟩
    exact ⟨i, rest, eq_encode_append_of_decode h⟩
  · rintro ⟨i, rest, rfl⟩
    exact ⟨i, rest, decode_encode_append i rest⟩

/-- The first word of an event carries the pattern of that event's row, and a word that carries a
row's pattern is the first word of one of its events (R57 to R61). -/
theorem exists_encode_iff_exists_row (w p0 p1 p2 p3 : Word) :
    (∃ i rest, [w, p0, p1, p2, p3] = encode i ++ rest) ↔
      ∃ row ∈ opcodeRows, matchesRow w row = true := by
  rw [exists_row_iff]
  constructor
  · rintro ⟨i, rest, hwords⟩
    cases i with
    | edge ch =>
      obtain ⟨rfl, -⟩ := List.cons.inj hwords
      rw [toNat_edgeWord]
      omega
    | tick p =>
      obtain ⟨rfl, -⟩ := List.cons.inj hwords
      rw [toNat_tickWord]
      omega
    | convDone r0 r1 r2 r3 => simp [(List.cons.inj hwords).1]
    | txDone => simp [(List.cons.inj hwords).1]
    | platformFault => simp [(List.cons.inj hwords).1]
    | reset => simp [(List.cons.inj hwords).1]
  · rintro (hedge | htick | rfl | rfl | rfl | rfl)
    · have hch := edgeChannel_val w
      exact ⟨.edge (edgeChannel w), [p0, p1, p2, p3],
        congrArg (· :: _) (word_eq_ofNat (code := 1) (by omega) (by omega))⟩
    · have hlevels := tickLevels_toNat w
      exact ⟨.tick (tickLevels w), [p0, p1, p2, p3],
        congrArg (· :: _) (word_eq_ofNat (code := 2) (by omega) (by omega))⟩
    · exact ⟨.convDone p0 p1 p2 p3, [], rfl⟩
    · exact ⟨.txDone, [p0, p1, p2, p3], rfl⟩
    · exact ⟨.platformFault, [p0, p1, p2, p3], rfl⟩
    · exact ⟨.reset, [p0, p1, p2, p3], rfl⟩

/-- Settles O5: the words that decode are the encodings, an event's first word carries its row's
pattern, and no two rows have one code. -/
theorem eventWordsAreTheTableRows : Obligations.EventWordsAreTheTableRows :=
  fun w p0 p1 p2 p3 =>
    ⟨(exists_decode_iff _).trans (exists_encode_iff_exists_row w p0 p1 p2 p3),
      matchingRows_length_le_one w⟩

/-! ### Words as bytes -/

theorem wordsOfBytes_bytesOfWords (ws : List Word) :
    wordsOfBytes (bytesOfWords ws) = (ws, none) := by
  induction ws with
  | nil => rfl
  | cons w ws ih =>
    have hword : w.extractLsb' 8 8 ++ w.extractLsb' 0 8 = w :=
      BitVec.extractLsb'_append_extractLsb' (len := 8)
    simp [bytesOfWords, bytesOfWord, wordsOfBytes, ih, hword]

theorem bytesOfWord_eq (w : Word) :
    bytesOfWord w = [BitVec.ofNat 8 (w.toNat / 256), BitVec.ofNat 8 (w.toNat % 256)] := by
  simp [bytesOfWord, ← BitVec.toNat_inj, Nat.shiftRight_eq_div_pow]

theorem bytesOfWords_getElem? {ws : List Word} {k : Nat} {w : Word} (h : ws[k]? = some w) :
    (bytesOfWords ws)[2 * k]? = some (BitVec.ofNat 8 (w.toNat / 256)) ∧
      (bytesOfWords ws)[2 * k + 1]? = some (BitVec.ofNat 8 (w.toNat % 256)) := by
  induction ws generalizing k with
  | nil => cases h
  | cons v ws ih =>
    rw [bytesOfWords, bytesOfWord_eq]
    cases k with
    | zero =>
      obtain rfl : v = w := Option.some.inj h
      exact ⟨rfl, rfl⟩
    | succ k => exact ih h

/-- Settles O6: a word is its two bytes joined, so each pair of bytes gives its word back. -/
theorem byteStreamsAreMostSignificantFirst : Obligations.ByteStreamsAreMostSignificantFirst :=
  fun ws => ⟨wordsOfBytes_bytesOfWords ws, fun _ _ => bytesOfWords_getElem?⟩

end Sys2Proof
end

section
/-! PROOF. Reserved and ill-formed event words end the run (30_encoding.md R62, log 8). -/

namespace Sys2Proof.Machine

/-- An event that is taken answers a next state, so a refusal comes from the decoder alone. -/
theorem step_eq_refused_iff (s : State) (r : Refusal) :
    step s = .refused r ↔ ∃ e, decode s.stream = .error e ∧ refusalOf s.pos e = some r := by
  unfold step fetch
  cases decode s.stream with
  | ok record =>
    obtain ⟨t, hexec⟩ := exec_exists_next record.1 (s.consume record.2)
    simp [hexec]
  | error e => cases h : refusalOf s.pos e <;> simp [h]

/-- A refusal names its error: of the errors only the two with a word have one. -/
theorem refusalOf_inj {pos : Nat} {e e' : DecodeError} {r : Refusal}
    (h : refusalOf pos e = some r) (h' : refusalOf pos e' = some r) : e = e' := by
  cases e with
  | reserved w => cases h; cases e' <;> simp_all [refusalOf]
  | illFormed w => cases h; cases e' <;> simp_all [refusalOf]
  | endOfStream => cases h
  | oddByte b => cases h

theorem step_eq_refused_iff_decode {s : State} {e : DecodeError} {r : Refusal}
    (hrefusal : refusalOf s.pos e = some r) :
    step s = .refused r ↔ decode s.stream = .error e := by
  rw [step_eq_refused_iff]
  constructor
  · rintro ⟨e', hdecode, hrefusal'⟩
    rw [hdecode, refusalOf_inj hrefusal' hrefusal]
  · exact fun hdecode => ⟨e, hdecode, hrefusal⟩

theorem eq_of_step_eq_refused {s : State} {w : Word} {rest : List Word} {r : Refusal}
    (hstream : s.stream = w :: rest) (h : step s = .refused r) :
    r = .reserved w s.pos ∨ r = .illFormed w s.pos := by
  obtain ⟨e, hdecode, hrefusal⟩ := (step_eq_refused_iff s r).1 h
  rw [hstream] at hdecode
  rcases decodeRecord_error hdecode with rfl | rfl
  · exact .inl (Option.some.inj hrefusal).symm
  · exact .inr (Option.some.inj hrefusal).symm

theorem core_run_succ_of_refused {s : State} {r : Refusal} (h : step s = .refused r) (k : Nat) :
    Host.Core.run Sys2Proof.core (k + 1) s = .refused r := by
  have hcore : Sys2Proof.core.step s = .refused r := h
  simp only [Host.Core.run, hcore]

/-- Settles O4: the decoder's two errors are the two refusals, and a refused step is where the
machine's run ends. -/
theorem badWordsAreRefusedByNameAndPosition : Obligations.BadWordsAreRefusedByNameAndPosition := by
  intro s w rest hstream
  have hdecode : decode s.stream = decodeRecord w rest := by rw [hstream, decode]
  have hreserved : step s = .refused (.reserved w s.pos) ↔ ReservedCode w := by
    rw [step_eq_refused_iff_decode (e := .reserved w) rfl, hdecode,
      decodeRecord_eq_reserved_iff]
  have hillFormed : step s = .refused (.illFormed w s.pos) ↔ IllFormedRecord w rest := by
    rw [step_eq_refused_iff_decode (e := .illFormed w) rfl, hdecode,
      decodeRecord_eq_illFormed_iff]
  exact ⟨hreserved, hillFormed, fun r hstep =>
    ⟨eq_of_step_eq_refused hstream hstep, core_run_succ_of_refused hstep⟩⟩

end Sys2Proof.Machine
end

section
/-! PROOF. The fixed positions of a packet (30_encoding.md R68, 42_packet_assembler.md R103,
R104). -/

namespace Sys2Proof.Machine

theorem btnChar_eq (b : Bool) : btnChar b = if b then 0x31#8 else 0x30#8 := rfl

theorem renderButtons_getElem? (btn : PerButton Bool) (i : Fin 8) :
    (renderButtons btn)[i.val]? = some (btnChar btn[i]) := by
  fin_cases i <;> rfl

/-- Of a packet's bytes only the eight button characters and the numbers depend on the frame. -/
theorem render_eq (f : Frame) :
    render f = chB :: chColon :: (renderButtons f.btn ++
      chComma :: chA :: chColon :: (renderAxes f.ax ++ [chNewline])) := rfl

/-- R68: button `i` is byte `2 + i`. -/
theorem render_getElem?_button (f : Frame) (i : Fin 8) :
    (render f)[2 + i.val]? = some (btnChar f.btn[i]) := by
  rw [render_eq, Nat.add_comm, List.getElem?_cons_succ, List.getElem?_cons_succ,
    List.getElem?_append_left i.isLt, renderButtons_getElem?]

/-- R68: the numbers start at byte 13, and the newline follows them. -/
theorem render_drop_thirteen (f : Frame) :
    (render f).drop 13 = renderAxes f.ax ++ [chNewline] := rfl

/-- Settles O38: a button is one character, so nothing before byte 13 moves with the frame. -/
theorem packetPositionsAreFixed : Obligations.PacketPositionsAreFixed :=
  fun f => ⟨rfl, rfl, fun i => by rw [render_getElem?_button, btnChar_eq], rfl, rfl, rfl,
    render_drop_thirteen f⟩

end Sys2Proof.Machine
end

section
/-! PROOF. Event scripts, line by line (30_encoding.md R65, R66). -/

namespace Sys2Proof.Machine

theorem assembleScript_eq {text : List Char} {lines : List (List Char)}
    (h : splitAtChar '\n' text = lines) : assembleScript text = assembleLines 1 lines := by
  rw [assembleScript, h]

theorem assembleLines_cons_of_some {l : List Char} {is : List Instr} (h : assembleLine l = some is)
    (n : Nat) (ls : List (List Char)) :
    assembleLines n (l :: ls) = (assembleLines (n + 1) ls).map (is ++ ·) := by
  rw [assembleLines, h]
  cases assembleLines (n + 1) ls <;> rfl

theorem assembleLines_cons_of_none {l : List Char} (h : assembleLine l = none) (n : Nat)
    (ls : List (List Char)) : assembleLines n (l :: ls) = .error n := by
  rw [assembleLines, h]

/-- Settles O60: each script is cut into its lines, and each line gives its events or is refused. -/
theorem scriptStatementsAssemble : Obligations.ScriptStatementsAssemble := by
  refine ⟨?_, ?_, ?_, ?_⟩
  · have hreset : assembleLine "reset ; start".toList = some [.reset] := by decide
    have hedge : assembleLine "edge 7".toList = some [.edge 7] := by decide
    have hhex : assembleLine "tick 0xFB".toList = some [.tick 0xFB#8] := by decide
    have hbinary : assembleLine "tick 0b11111011".toList = some [.tick 0xFB#8] := by decide
    have hconv : assembleLine "conv 2548,0x0800, 0,65535".toList =
        some [.convDone 2548#16 2048#16 0#16 65535#16] := by decide
    have htxdone : assembleLine "txdone".toList = some [.txDone] := by decide
    have hfault : assembleLine "fault".toList = some [.platformFault] := by decide
    have hticks : assembleLine "ticks 2, 0xFF".toList = some [.tick 0xFF#8, .tick 0xFF#8] := by
      decide
    rw [assembleScript_eq (lines := ["reset ; start".toList, "edge 7".toList,
      "tick 0xFB".toList, "tick 0b11111011".toList, "conv 2548,0x0800, 0,65535".toList,
      "txdone".toList, "fault".toList, "ticks 2, 0xFF".toList]) (by decide),
      assembleLines_cons_of_some hreset, assembleLines_cons_of_some hedge,
      assembleLines_cons_of_some hhex, assembleLines_cons_of_some hbinary,
      assembleLines_cons_of_some hconv, assembleLines_cons_of_some htxdone,
      assembleLines_cons_of_some hfault, assembleLines_cons_of_some hticks]
    rfl
  · have hcalibrate : assembleLine "calibrate 1,2,3,4".toList =
        some (List.replicate 20 (.convDone 1#16 2#16 3#16 4#16)) := by decide
    rw [assembleScript_eq (lines := ["calibrate 1,2,3,4".toList]) (by decide),
      assembleLines_cons_of_some hcalibrate]
    rfl
  · have hreset : assembleLine "reset".toList = some [.reset] := by decide
    have hedge : assembleLine "edge 8".toList = none := by decide
    rw [assembleScript_eq (lines := ["reset".toList, "edge 8".toList]) (by decide),
      assembleLines_cons_of_some hreset, assembleLines_cons_of_none hedge]
    rfl
  · have hconv : assembleLine "conv 65536,0,0,0".toList = none := by decide
    rw [assembleScript_eq (lines := ["conv 65536,0,0,0".toList]) (by decide),
      assembleLines_cons_of_none hconv]

end Sys2Proof.Machine
end

section
/-! PROOF. One button channel by itself (40_debounce.md R75 to R82): a tick of the machine is, for each
channel, a tick of the channel alone. -/

namespace Sys2Proof.Machine

/-- What a tick reads of one button channel (R82): the channel's own fields, and the shared re-poll
counter. -/
@[ext]
structure ButtonChannel where
  pending : Bool
  remain : BitVec 4
  stable : Bool
  repollCnt : BitVec 7

/-- Channel `i` of a state. -/
def State.channel (i : Fin 8) (s : State) : ButtonChannel where
  pending := s.edgePending[i]
  remain := s.debRemain[i]
  stable := s.stable[i]
  repollCnt := s.repollCnt

@[simp] theorem State.channel_pending (i : Fin 8) (s : State) :
    (s.channel i).pending = s.edgePending[i] := rfl
@[simp] theorem State.channel_remain (i : Fin 8) (s : State) :
    (s.channel i).remain = s.debRemain[i] := rfl
@[simp] theorem State.channel_stable (i : Fin 8) (s : State) :
    (s.channel i).stable = s.stable[i] := rfl
@[simp] theorem State.channel_repollCnt (i : Fin 8) (s : State) :
    (s.channel i).repollCnt = s.repollCnt := rfl

/-- A tick of one channel, whose pin stands for the state `level`: step 2, the counter, and the
re-poll. -/
def ButtonChannel.tick (level : Bool) (c : ButtonChannel) : ButtonChannel :=
  let next := debounceChannel Config.jic c.pending c.remain c.stable level
  let count := BitVec.ofNat 7 (nextCount c.repollCnt.toNat Config.jic.repollPeriod)
  { pending := false
    remain := next.1
    stable := if count = 0#7 ∧ next.1 = 0#4 then level else next.2
    repollCnt := count }

/-- R82: the machine's tick does to each channel what the channel's own tick does. -/
theorem tickStep_channel (p : BitVec 8) (s : State) (i : Fin 8) :
    (tickStep Config.jic p s).channel i = (s.channel i).tick (pressed p i) :=
  ButtonChannel.ext (tickStep_edgePending_get _ p s i) (tickStep_debRemain_get _ p s i)
    (tickStep_stable_get _ p s i) (tickStep_repollCnt _ p s)

theorem tickStep_debRemain_channel (p : BitVec 8) (s : State) (i : Fin 8) :
    (tickStep Config.jic p s).debRemain[i] = ((s.channel i).tick (pressed p i)).remain :=
  congrArg ButtonChannel.remain (tickStep_channel p s i)

theorem tickStep_stable_channel (p : BitVec 8) (s : State) (i : Fin 8) :
    (tickStep Config.jic p s).stable[i] = ((s.channel i).tick (pressed p i)).stable :=
  congrArg ButtonChannel.stable (tickStep_channel p s i)

namespace ButtonChannel

variable {c : ButtonChannel} (level : Bool)

@[simp] theorem tick_pending : (c.tick level).pending = false := rfl

/-- R77: the re-poll counter counts modulo 100, which fits its 7 bits. -/
theorem tick_repollCnt_toNat :
    (c.tick level).repollCnt.toNat = (c.repollCnt.toNat + 1) % 100 := by
  simp only [tick, nextCount, jic_repollPeriod, BitVec.toNat_ofNat]
  omega

theorem tick_repollCnt_eq_zero_iff :
    (c.tick level).repollCnt = 0#7 ↔ (c.repollCnt.toNat + 1) % 100 = 0 := by
  rw [← tick_repollCnt_toNat level, ← BitVec.toNat_inj]
  rfl

/-- R75: a set latch arms the window at 15, and the same tick counts one. -/
theorem tick_remain_of_pending (h : c.pending = true) : (c.tick level).remain = 14#4 := by
  rw [tick, h, debounceChannel, armWindow_pending, countDown_pos (by decide)]
  rfl

/-- R76: with no latch set the count goes down by one, and no further than 0. -/
theorem tick_remain_toNat_of_clear (h : c.pending = false) :
    (c.tick level).remain.toNat = c.remain.toNat - 1 := by
  rw [tick, h, debounceChannel, armWindow_idle]
  by_cases hzero : c.remain = 0#4
  · rw [hzero, countDown_zero]
    rfl
  · rw [countDown_pos hzero]
    bv_omega

/-- R76: with no latch set, a count of 1 reaches 0 and a count of 0 stays there. -/
theorem tick_remain_of_clear_of_le_one (hclear : c.pending = false) (hone : c.remain.toNat ≤ 1) :
    (c.tick level).remain = 0#4 := by
  have hcount := tick_remain_toNat_of_clear level hclear
  exact BitVec.eq_of_toNat_eq (hcount.trans (Nat.sub_eq_zero_of_le hone))

/-- R76, R78: a window that runs on after the tick leaves the stable state unwritten, re-polls
included. -/
theorem tick_stable_of_counting (h : (c.tick level).remain ≠ 0#4) :
    (c.tick level).stable = c.stable := by
  have hwindow : armWindow Config.jic c.pending c.remain ≠ 0#4 := by
    intro hzero
    rw [tick, debounceChannel, hzero] at h
    exact h rfl
  simp only [tick, debounceChannel, countDown_pos hwindow] at h ⊢
  simp only [h, and_false, if_false]

/-- R76: the tick that takes the count to 0 resolves the channel to its pin, and a re-poll in the
same tick writes the same state. -/
theorem tick_stable_of_resolving (hclear : c.pending = false) (hone : c.remain = 1#4) :
    (c.tick level).stable = level := by
  simp [tick, debounceChannel, hclear, hone, armWindow_idle, countDown]

/-- R78: a re-poll tick takes a channel with no window running to its pin. -/
theorem tick_stable_of_repoll (hrepoll : (c.repollCnt.toNat + 1) % 100 = 0)
    (hzero : (c.tick level).remain = 0#4) : (c.tick level).stable = level :=
  if_pos ⟨(tick_repollCnt_eq_zero_iff level).2 hrepoll, hzero⟩

/-- R76, R78: on a tick that is no re-poll an idle channel keeps its state. -/
theorem tick_stable_of_idle (hclear : c.pending = false) (hzero : c.remain = 0#4)
    (hrepoll : (c.repollCnt.toNat + 1) % 100 ≠ 0) : (c.tick level).stable = c.stable := by
  have hcount : (c.tick level).repollCnt ≠ 0#7 := mt (tick_repollCnt_eq_zero_iff level).1 hrepoll
  calc (c.tick level).stable
      = (debounceChannel Config.jic c.pending c.remain c.stable level).2 :=
        if_neg fun hboth => hcount hboth.1
    _ = c.stable := by rw [hclear, hzero, debounceChannel, armWindow_idle, countDown_zero]

end ButtonChannel

end Sys2Proof.Machine
end

section
/-! PROOF. One TICK (40_debounce.md R74 to R79, R82). -/

namespace Sys2Proof.Machine

/-- Settles O12: a latch that is set arms the window, and every other count goes down. -/
theorem tickConsumesLatchesAndArms : Obligations.TickConsumesLatchesAndArms := by
  intro p s hmode hrunning
  refine ⟨_, exec_tick_of_run p hmode hrunning, tickStep_edgePending_get _ p s, ?_, ?_⟩ <;>
    intro i hlatch
  · have harmed := tickStep_debRemain_of_pending p hlatch
    refine ⟨harmed, ?_⟩
    have hcounting : ((s.channel i).tick (pressed p i)).remain ≠ 0#4 := by
      rw [ButtonChannel.tick_remain_of_pending _ hlatch]
      decide
    rw [tickStep_stable_channel]
    exact ButtonChannel.tick_stable_of_counting _ hcounting
  · rw [tickStep_debRemain_channel]
    exact ButtonChannel.tick_remain_toNat_of_clear _ hlatch

/-- Settles O13: a count of 1 reaches 0 in the tick, and a greater one does not. -/
theorem tickResolvesAtZero : Obligations.TickResolvesAtZero := by
  intro p s i hmode hrunning hclear
  refine ⟨_, exec_tick_of_run p hmode hrunning, ?_⟩
  rw [tickStep_debRemain_channel, tickStep_stable_channel]
  constructor
  · intro hone
    exact ⟨ButtonChannel.tick_remain_of_clear_of_le_one _ hclear (by simp [hone]),
      ButtonChannel.tick_stable_of_resolving _ hclear hone⟩
  · intro htwo
    have hcount := ButtonChannel.tick_remain_toNat_of_clear (pressed p i)
      (c := s.channel i) hclear
    rw [State.channel_remain] at hcount
    refine ⟨by bv_omega, ButtonChannel.tick_stable_of_counting _ fun hzero => ?_⟩
    rw [hzero, BitVec.toNat_ofNat] at hcount
    omega

/-- Settles O14: the three clauses are the channel's rules for a re-poll, a window that runs on and
an idle channel. -/
theorem repollForcesIdleChannelsOnly : Obligations.RepollForcesIdleChannelsOnly := by
  intro p s hmode hrunning
  refine ⟨_, exec_tick_of_run p hmode hrunning, fun i => ?_⟩
  rw [tickStep_debRemain_channel, tickStep_stable_channel]
  exact ⟨fun hrepoll hzero => ButtonChannel.tick_stable_of_repoll _ hrepoll hzero,
    fun hcounting => ButtonChannel.tick_stable_of_counting _ hcounting,
    fun hrepoll hzero hclear => ButtonChannel.tick_stable_of_idle _ hclear hzero hrepoll⟩

/-- R79: a tick is a boundary when the counter it advances wraps to 0. -/
theorem tickStep_snapCnt_eq_zero_iff (p : BitVec 8) (s : State) :
    (tickStep Config.jic p s).snapCnt = 0#5 ↔ (s.snapCnt.toNat + 1) % 20 = 0 := by
  rw [← tickStep_snapCnt_toNat p, ← BitVec.toNat_inj]
  rfl

/-- Settles O15: the boundary's two cases are told apart by the counter. -/
theorem boundaryTakesSnapshotAndTriggers : Obligations.BoundaryTakesSnapshotAndTriggers := by
  intro p s hmode hrunning
  refine ⟨_, exec_tick_of_run p hmode hrunning, ?_⟩
  rw [ne_eq, ← tickStep_snapCnt_eq_zero_iff p, tickStep_snapCnt]
  rcases tickStep_boundary Config.jic p s with ⟨hother, hkept⟩ | ⟨hboundary, hsnapshot⟩
  · exact ⟨fun h => absurd h hother, fun _ => hkept⟩
  · exact ⟨fun _ => hsnapshot, fun h => absurd hboundary h⟩

/-- Settles O18: the two states have the same channel `i`, so its tick has the same result. -/
theorem channelsAreIndependent : Obligations.ChannelsAreIndependent := by
  intro p p' s s' i hmode hrunning hmode' hrunning' hpending hremain hstable hpin hrepoll
  refine ⟨_, _, exec_tick_of_run p hmode hrunning, exec_tick_of_run p' hmode' hrunning', ?_⟩
  have hchannel : s.channel i = s'.channel i := ButtonChannel.ext hpending hremain hstable hrepoll
  have hlevel : pressed p i = pressed p' i := congrArg (!·) hpin
  have htick : (tickStep Config.jic p s).channel i = (tickStep Config.jic p' s').channel i := by
    rw [tickStep_channel, tickStep_channel, hchannel, hlevel]
  exact ⟨congrArg ButtonChannel.pending htick, congrArg ButtonChannel.remain htick,
    congrArg ButtonChannel.stable htick⟩

end Sys2Proof.Machine
end

section
/-! PROOF. Sequences of events in normal operation, tick by tick: what comes between two ticks leaves
the buttons and the tick counters alone (20_memory.md R47, 40_debounce.md R77). -/

namespace Sys2Proof.Machine

/-! ### The events between two ticks -/

/-- Everything an event of normal operation other than a TICK can do in RUN: latch an edge, commit a
conversion, free the buffer, or nothing. -/
theorem exec_quiet_next {e : Instr} {s t : State} (hop : isOperating e = true)
    (hquiet : isTick e = false) (hs : s.tickEnabled = true) (hexec : exec e s = .next t) :
    (∃ ch, e = .edge ch ∧ t = latchEdge ch s) ∨ (∃ r, t = conversionStep Config.jic r s) ∨
    t = releaseBuffer s ∨ t = s := by
  obtain ⟨hmode, hrunning⟩ := (tickEnabled_iff s).1 hs
  cases e with
  | edge ch =>
    rcases execEdge_next hexec with ⟨hhalted, -⟩ | ⟨-, rfl⟩
    · exact absurd (hhalted.symm.trans hrunning) (by decide)
    · exact .inl ⟨ch, rfl, rfl⟩
  | tick p => cases hquiet
  | convDone r0 r1 r2 r3 =>
    rcases execConvDone_next hexec with ⟨-, rfl⟩ | ⟨hcal, -, -⟩ | ⟨-, -, -, rfl⟩ | ⟨-, -, -, rfl⟩
    · exact .inr (.inr (.inr rfl))
    · exact absurd (hcal.symm.trans hmode) (by decide)
    · exact .inr (.inl ⟨_, rfl⟩)
    · exact .inr (.inr (.inr rfl))
  | txDone =>
    rcases execTxDone_next hexec with ⟨-, rfl⟩ | ⟨-, rfl⟩
    · exact .inr (.inr (.inr rfl))
    · exact .inr (.inr (.inl rfl))
  | platformFault => cases hop
  | reset => cases hop

theorem exec_tick_of_tickEnabled (p : BitVec 8) {s : State} (hs : s.tickEnabled = true) :
    exec (.tick p) s = .next (tickStep Config.jic p s) :=
  if_pos hs

theorem tickEnabled_congr {s t : State} (hmode : t.mode = s.mode) (hhalted : t.halted = s.halted) :
    t.tickEnabled = s.tickEnabled := by
  rw [State.tickEnabled, State.tickEnabled, hmode, hhalted]

@[simp] theorem tickStep_halted (c : Config) (p : BitVec 8) (s : State) :
    (tickStep c p s).halted = s.halted := by simp [tickStep]

@[simp] theorem conversionStep_halted (c : Config) (r : PerChannel (BitVec 16)) (s : State) :
    (conversionStep c r s).halted = s.halted := by simp [conversionStep]

@[simp] theorem tickStep_tickEnabled (c : Config) (p : BitVec 8) (s : State) :
    (tickStep c p s).tickEnabled = s.tickEnabled :=
  tickEnabled_congr (tickStep_mode c p s) (tickStep_halted c p s)

section
variable {e : Instr} {s t : State} (hop : isOperating e = true) (hquiet : isTick e = false)
  (hs : s.tickEnabled = true) (hexec : exec e s = .next t)
include hop hquiet hs hexec

theorem exec_quiet_tickEnabled : t.tickEnabled = true := by
  rcases exec_quiet_next hop hquiet hs hexec with ⟨ch, -, rfl⟩ | ⟨r, rfl⟩ | rfl | rfl
  · exact hs
  · exact (tickEnabled_congr (conversionStep_mode _ r s) (conversionStep_halted _ r s)).trans hs
  · exact hs
  · exact hs

/-- R77: the tick counters count ticks only. -/
theorem exec_quiet_counters : t.snapCnt = s.snapCnt ∧ t.repollCnt = s.repollCnt := by
  rcases exec_quiet_next hop hquiet hs hexec with ⟨ch, -, rfl⟩ | ⟨r, rfl⟩ | rfl | rfl
  · exact ⟨rfl, rfl⟩
  · exact ⟨conversionStep_snapCnt _ r s, conversionStep_repollCnt _ r s⟩
  · exact ⟨rfl, rfl⟩
  · exact ⟨rfl, rfl⟩

/-- R73, R82: between two ticks, a channel can change by an EDGE of its own only. -/
theorem exec_quiet_channel {i : Fin 8} (hedge : e ≠ .edge i) : t.channel i = s.channel i := by
  rcases exec_quiet_next hop hquiet hs hexec with ⟨ch, rfl, rfl⟩ | ⟨r, rfl⟩ | rfl | rfl
  · have hother : i ≠ ch := fun h => hedge (congrArg Instr.edge h.symm)
    have hlatch : (latchEdge ch s).edgePending[i] = s.edgePending[i] := by
      rw [latchEdge_edgePending_get, if_neg hother]
    exact ButtonChannel.ext hlatch rfl rfl rfl
  · rw [conversionStep_eq_update]
    rfl
  · rfl
  · rfl

/-- R79: only a boundary requests a conversion. -/
theorem exec_quiet_trace : ∃ os, t.trace = s.trace ++ os ∧ countConvStart os = 0 := by
  rcases exec_quiet_next hop hquiet hs hexec with ⟨ch, -, rfl⟩ | ⟨r, rfl⟩ | rfl | rfl
  · exact ⟨[], by simp, rfl⟩
  · rcases conversionStep_cases Config.jic r s with ⟨-, hdropped⟩ | ⟨-, hsent⟩
    · exact ⟨[], by simp [hdropped], rfl⟩
    · exact ⟨_, by rw [hsent, sendPacket_trace]; rfl, rfl⟩
  · exact ⟨[], by simp, rfl⟩
  · exact ⟨[], by simp, rfl⟩

end

/-! ### Counting the ticks of a sequence -/

theorem tickCount_cons_quiet {e : Instr} (h : isTick e = false) (is : List Instr) :
    tickCount (e :: is) = tickCount is := by
  simp [tickCount, h]

theorem tickCount_cons_tick (p : BitVec 8) (is : List Instr) :
    tickCount (.tick p :: is) = tickCount is + 1 := Nat.add_comm _ _

theorem exists_eq_tick {e : Instr} (h : isTick e = true) : ∃ p, e = .tick p := by
  cases e with
  | tick p => exact ⟨p, rfl⟩
  | edge ch => cases h
  | convDone r0 r1 r2 r3 => cases h
  | txDone => cases h
  | platformFault => cases h
  | reset => cases h

/-- The induction over a sequence of events in RUN: a property of the number of ticks taken and the
state, which the events between two ticks keep and each tick carries on to the next number, holds at
the end with the number of ticks of the sequence. -/
theorem runEvents_countsTicks (P : Nat → State → Prop) {is : List Instr} {n : Nat} {s t : State}
    (hop : ∀ e ∈ is, isOperating e = true)
    (hquiet : ∀ e ∈ is, isTick e = false → ∀ n s t, s.tickEnabled = true →
      exec e s = .next t → P n s → P n t)
    (htick : ∀ p, .tick p ∈ is → ∀ n s, P n s → P (n + 1) (tickStep Config.jic p s))
    (hs : s.tickEnabled = true) (h : P n s) (hrun : runEvents is s = .next t) :
    t.tickEnabled = true ∧ P (n + tickCount is) t := by
  induction is generalizing n s with
  | nil =>
    cases hrun
    exact ⟨hs, h⟩
  | cons e is ih =>
    obtain ⟨s', hexec, hrest⟩ := runEvents_cons_next hrun
    have ih' {m : Nat} (hs' : s'.tickEnabled = true) (h' : P m s') :=
      ih (fun e he => hop e (.tail _ he)) (fun e he => hquiet e (.tail _ he))
        (fun p hp => htick p (.tail _ hp)) hs' h' hrest
    cases hkind : isTick e with
    | false =>
      rw [tickCount_cons_quiet hkind]
      exact ih' (exec_quiet_tickEnabled (hop e (.head _)) hkind hs hexec)
        (hquiet e (.head _) hkind n s s' hs hexec h)
    | true =>
      obtain ⟨p, rfl⟩ := exists_eq_tick hkind
      obtain rfl : tickStep Config.jic p s = s' := by
        simpa [exec_tick_of_tickEnabled p hs] using hexec
      rw [tickCount_cons_tick, Nat.add_comm (tickCount is), ← Nat.add_assoc]
      exact ih' ((tickStep_tickEnabled _ p s).trans hs) (htick p (.head _) n s h)

/-- The same induction for one channel that sees no EDGE of its own: only its ticks matter. -/
theorem runEvents_channel (P : Nat → ButtonChannel → Prop) {i : Fin 8} {is : List Instr}
    {s t : State} (his : ∀ e ∈ is, isOperating e = true ∧ e ≠ .edge i)
    (htick : ∀ p, .tick p ∈ is → ∀ n c, P n c → P (n + 1) (c.tick (pressed p i)))
    (hs : s.tickEnabled = true) (h : P 0 (s.channel i)) (hrun : runEvents is s = .next t) :
    t.tickEnabled = true ∧ P (tickCount is) (t.channel i) := by
  have hcount := runEvents_countsTicks (fun n s => P n (s.channel i)) (fun e he => (his e he).1)
    (fun e he hkind n s t hs hexec h => by
      rwa [exec_quiet_channel (his e he).1 hkind hs hexec (his e he).2])
    (fun p hp n s h => by
      rw [tickStep_channel]
      exact htick p hp n _ h) hs h hrun
  rwa [Nat.zero_add] at hcount

theorem runEvents_append {is js : List Instr} {s t : State} (h : runEvents is s = .next t) :
    runEvents (is ++ js) s = runEvents js t := by
  induction is generalizing s with
  | nil =>
    cases h
    rfl
  | cons e is ih =>
    obtain ⟨s', hexec, hrest⟩ := runEvents_cons_next h
    rw [List.cons_append, runEvents_cons hexec, ih hrest]

end Sys2Proof.Machine
end

section
/-! PROOF. The tick counters and the conversion requests over a run (40_debounce.md R77, R79). -/

namespace Sys2Proof.Machine

/-- Settles O16: each tick advances both counters, and no other event moves them. -/
theorem countersCountRunTicks : Obligations.CountersCountRunTicks := by
  intro is s hmode hrunning hsnap hrepoll hop
  obtain ⟨t, hrun⟩ := runEvents_exists_next is s
  have hcount := runEvents_countsTicks
    (fun n s => s.snapCnt.toNat = n % 20 ∧ s.repollCnt.toNat = n % 100) hop
    (fun e he hkind n s t hs hexec h => by
      obtain ⟨hsnap, hrepoll⟩ := exec_quiet_counters (hop e he) hkind hs hexec
      rwa [hsnap, hrepoll])
    (fun p _ n s h => by
      rw [tickStep_snapCnt_toNat, tickStep_repollCnt_toNat]
      omega)
    (n := 0) ((tickEnabled_iff s).2 ⟨hmode, hrunning⟩) (by simp [hsnap, hrepoll]) hrun
  rw [Nat.zero_add] at hcount
  exact ⟨t, hrun, hcount.2⟩

theorem countConvStart_append (os os' : List Output) :
    countConvStart (os ++ os') = countConvStart os + countConvStart os' := by
  induction os with
  | nil => exact (Nat.zero_add _).symm
  | cons o os ih =>
    cases o with
    | convStart => rw [List.cons_append, countConvStart, countConvStart, ih, Nat.add_right_comm]
    | txStart n => rw [List.cons_append, countConvStart, countConvStart, ih]

/-- From state `s` to state `t` of one run, `n` conversions have been requested. -/
def State.Requested (s : State) (n : Nat) (t : State) : Prop :=
  ∃ os, t.trace = s.trace ++ os ∧ countConvStart os = n

theorem State.Requested.outputsBetween {s t : State} {n : Nat} (h : s.Requested n t) :
    countConvStart (outputsBetween s t) = n := by
  obtain ⟨os, htrace, hcount⟩ := h
  rw [Machine.outputsBetween, htrace, List.drop_left, hcount]

theorem State.Requested.trans {s t u : State} {m n : Nat} (h : s.Requested m t)
    (h' : t.Requested n u) : s.Requested (m + n) u := by
  obtain ⟨os, htrace, rfl⟩ := h
  obtain ⟨os', htrace', rfl⟩ := h'
  exact ⟨os ++ os', by rw [htrace', htrace, List.append_assoc], countConvStart_append os os'⟩

/-- R79: a tick requests one conversion at a boundary and none elsewhere. -/
theorem tickStep_requested (p : BitVec 8) (s : State) :
    s.Requested (if (s.snapCnt.toNat + 1) % 20 = 0 then 1 else 0) (tickStep Config.jic p s) := by
  have hiff := tickStep_snapCnt_eq_zero_iff p s
  rw [tickStep_snapCnt] at hiff
  rcases tickStep_boundary Config.jic p s with ⟨hother, -, -, htrace⟩ | ⟨hboundary, -, -, htrace⟩
  · exact ⟨[], by rw [htrace, List.append_nil], (if_neg (mt hiff.2 hother)).symm⟩
  · exact ⟨[.convStart], htrace, (if_pos (hiff.1 hboundary)).symm⟩

/-- Settles O17: after n ticks the counter is n mod 20 and n / 20 conversions have been requested. -/
theorem oneConversionRequestPerBoundary : Obligations.OneConversionRequestPerBoundary := by
  intro is s hmode hrunning hsnap hop
  obtain ⟨t, hrun⟩ := runEvents_exists_next is s
  have hcount := runEvents_countsTicks
    (fun n t => t.snapCnt.toNat = n % 20 ∧ s.Requested (n / 20) t) hop
    (fun e he hkind n t u ht hexec ⟨hphase, hrequests⟩ => by
      rw [(exec_quiet_counters (hop e he) hkind ht hexec).1]
      exact ⟨hphase, hrequests.trans (exec_quiet_trace (hop e he) hkind ht hexec)⟩)
    (fun p _ n t ⟨hphase, hrequests⟩ => by
      have hnext : (n + 1) / 20 = n / 20 + if (t.snapCnt.toNat + 1) % 20 = 0 then 1 else 0 := by
        split <;> omega
      rw [tickStep_snapCnt_toNat, hnext]
      exact ⟨by omega, hrequests.trans (tickStep_requested p t)⟩)
    (n := 0) ((tickEnabled_iff s).2 ⟨hmode, hrunning⟩)
    ⟨by simp [hsnap], [], by simp, rfl⟩ hrun
  rw [Nat.zero_add] at hcount
  exact ⟨t, hrun, hcount.2.2.outputsBetween⟩

end Sys2Proof.Machine
end

section
/-! PROOF. The debounce window over a run (40_debounce.md R80, R81, R84, R85). -/

namespace Sys2Proof.Machine

namespace ButtonChannel

/-- The channel is `n` ticks into a window that began with a pending latch at the stable state `b`
(R81). -/
structure InWindow (b : Bool) (n : Nat) (c : ButtonChannel) : Prop where
  pending : c.pending = decide (n = 0)
  remain : 0 < n → c.remain.toNat = 15 - n
  stable : c.stable = b

/-- R80, R81: each of the first 14 ticks of a window counts and writes no stable state. -/
theorem InWindow.tick {b : Bool} {n : Nat} {c : ButtonChannel} (h : c.InWindow b n) (hn : n < 14)
    (level : Bool) : (c.tick level).InWindow b (n + 1) := by
  have hremain : (c.tick level).remain.toNat = 15 - (n + 1) := by
    rcases Nat.eq_zero_or_pos n with rfl | hpos
    · rw [tick_remain_of_pending level h.pending]
      rfl
    · have hclear : c.pending = false := by simp [h.pending, hpos.ne']
      rw [tick_remain_toNat_of_clear level hclear, h.remain hpos]
      omega
  have hcounting : (c.tick level).remain ≠ 0#4 := by
    intro hzero
    rw [hzero, BitVec.toNat_ofNat] at hremain
    omega
  exact ⟨by simp, fun _ => hremain, (tick_stable_of_counting level hcounting).trans h.stable⟩

/-- With `n` ticks taken, the window that ran at the first of them, or began in it, has at most
15 - `n` ticks to go. -/
structure WindowEnds (n : Nat) (c : ButtonChannel) : Prop where
  pending : 0 < n → c.pending = false
  remain : c.remain.toNat ≤ 15 - n

theorem windowEnds_zero (c : ButtonChannel) : c.WindowEnds 0 :=
  ⟨fun h => absurd h (Nat.lt_irrefl 0), Nat.le_of_lt_succ c.remain.isLt⟩

theorem WindowEnds.tick {n : Nat} {c : ButtonChannel} (h : c.WindowEnds n) (level : Bool) :
    (c.tick level).WindowEnds (n + 1) := by
  refine ⟨fun _ => tick_pending level, ?_⟩
  have hbound := h.remain
  cases hlatch : c.pending with
  | true =>
    have hfirst : n = 0 := by
      by_contra hn
      simp [h.pending (Nat.pos_of_ne_zero hn)] at hlatch
    rw [tick_remain_of_pending level hlatch, hfirst]
    rfl
  | false =>
    rw [tick_remain_toNat_of_clear level hlatch]
    omega

/-- A channel that will have the stable state `b` once it is idle, if its pin stays there: it is at
`b`, or a window is yet to resolve. -/
def Settling (b : Bool) (c : ButtonChannel) : Prop :=
  c.pending = false → c.remain = 0#4 → c.stable = b

/-- R76, R78: with the pin at `b` a settling channel stays so, and a re-poll tick makes any channel
settle. -/
theorem tick_settling {b : Bool} {c : ButtonChannel}
    (h : c.Settling b ∨ (c.repollCnt.toNat + 1) % 100 = 0) : (c.tick b).Settling b := by
  intro _ hzero
  by_cases hrepoll : (c.repollCnt.toNat + 1) % 100 = 0
  · exact tick_stable_of_repoll b hrepoll hzero
  have hsettling : c.Settling b := h.resolve_right hrepoll
  cases hlatch : c.pending with
  | true =>
    rw [tick_remain_of_pending b hlatch] at hzero
    exact absurd hzero (by decide)
  | false =>
    have hcount := tick_remain_toNat_of_clear b hlatch
    rw [hzero, BitVec.toNat_ofNat] at hcount
    by_cases hidle : c.remain = 0#4
    · exact (tick_stable_of_idle b hlatch hidle hrepoll).trans (hsettling hlatch hidle)
    · exact tick_stable_of_resolving b hlatch (by bv_omega)

/-- With `n` ticks taken the channel settles, unless its re-poll is still to come; the re-poll counter
has then counted all `n`. -/
def SettlesByRepoll (b : Bool) (n : Nat) (c : ButtonChannel) : Prop :=
  c.Settling b ∨ (n ≤ c.repollCnt.toNat ∧ (0 < n → c.repollCnt.toNat < 100))

theorem SettlesByRepoll.tick {b : Bool} {n : Nat} {c : ButtonChannel} (h : c.SettlesByRepoll b n) :
    (c.tick b).SettlesByRepoll b (n + 1) := by
  rcases h with hsettling | ⟨hcounted, hrange⟩
  · exact .inl (tick_settling (.inl hsettling))
  by_cases hrepoll : (c.repollCnt.toNat + 1) % 100 = 0
  · exact .inl (tick_settling (.inr hrepoll))
  · refine .inr ?_
    rw [tick_repollCnt_toNat]
    omega

/-- R85 (c): the counter cannot count 100 ticks without a re-poll. -/
theorem SettlesByRepoll.settling {b : Bool} {n : Nat} {c : ButtonChannel}
    (h : c.SettlesByRepoll b n) (hn : 100 ≤ n) : c.Settling b :=
  h.resolve_right fun ⟨hcounted, hrange⟩ => by omega

/-- A settling channel whose window is over has settled. -/
theorem Settling.stable {b : Bool} {n : Nat} {c : ButtonChannel} (h : c.Settling b)
    (hends : c.WindowEnds n) (hn : 15 ≤ n) : c.stable = b := by
  have hremain := hends.remain
  exact h (hends.pending (by omega)) (by bv_omega)

end ButtonChannel

/-! ### Runs with no EDGE on the channel -/

section
variable {i : Fin 8} {is : List Instr} {s t : State}
  (his : ∀ e ∈ is, isOperating e = true ∧ e ≠ .edge i) (hs : s.tickEnabled = true)
  (hrun : runEvents is s = .next t)
include his hs hrun

/-- R81: up to 14 ticks after a pending latch the channel is in its window. -/
theorem runEvents_inWindow (hpending : s.edgePending[i] = true) (hlen : tickCount is ≤ 14) :
    t.tickEnabled = true ∧ (t.channel i).InWindow s.stable[i] (tickCount is) := by
  obtain ⟨ht, hwindow⟩ := runEvents_channel
    (fun n c => n ≤ 14 → c.InWindow s.stable[i] n) his
    (fun p _ n c h hn => (h (by omega)).tick (by omega) _) hs
    (fun _ => ⟨hpending, fun h => absurd h (Nat.lt_irrefl 0), rfl⟩) hrun
  exact ⟨ht, hwindow hlen⟩

theorem runEvents_windowEnds : (t.channel i).WindowEnds (tickCount is) :=
  (runEvents_channel ButtonChannel.WindowEnds his (fun p _ _ _ h => h.tick (pressed p i)) hs
    (ButtonChannel.windowEnds_zero _) hrun).2

variable {level : Bool} (hpin : pinHeldAt i level is)
include hpin

/-- R85 (a): a pending latch settles at the level held. -/
theorem runEvents_settling_of_pending (hpending : s.edgePending[i] = true) :
    (t.channel i).Settling (!level) := by
  refine (runEvents_channel (fun _ c => c.Settling (!level)) his (fun p hp _ c h => ?_) hs
    (fun hclear => absurd (hclear.symm.trans hpending) (by decide)) hrun).2
  rw [pressed, hpin p hp]
  exact ButtonChannel.tick_settling (.inl h)

/-- R85 (c): with no latch to go by, the re-poll makes the channel settle at the level held. -/
theorem runEvents_settlesByRepoll : (t.channel i).SettlesByRepoll (!level) (tickCount is) := by
  refine (runEvents_channel (ButtonChannel.SettlesByRepoll (!level)) his (fun p hp _ c h => ?_) hs
    (.inr ⟨Nat.zero_le _, fun h => absurd h (Nat.lt_irrefl 0)⟩) hrun).2
  rw [pressed, hpin p hp]
  exact h.tick

end

/-! ### The windows of R81 and R85 -/

/-- Settles O19: 14 ticks into the window the count is 1, so the next tick resolves. -/
theorem windowResolvesOnTheFifteenthTick : Obligations.WindowResolvesOnTheFifteenthTick := by
  intro is p s i hmode hrunning hpending his hfirst hlast
  have hs : s.tickEnabled = true := (tickEnabled_iff s).2 ⟨hmode, hrunning⟩
  obtain ⟨t, hrun⟩ := runEvents_exists_next is s
  obtain ⟨ht, hwindow⟩ := runEvents_inWindow his hs hrun hpending hlast
  have hremain : (t.channel i).remain.toNat = 15 - tickCount is := hwindow.remain hfirst
  refine ⟨t, hrun, hremain, hwindow.stable, fun hfourteen => ?_⟩
  have hclear : (t.channel i).pending = false := by simp only [hwindow.pending, hfourteen]; rfl
  have hone : (t.channel i).remain = 1#4 := by
    rw [hfourteen] at hremain
    exact BitVec.eq_of_toNat_eq hremain
  refine ⟨_, exec_tick_of_tickEnabled p ht, ?_⟩
  rw [tickStep_debRemain_channel, tickStep_stable_channel]
  exact ⟨ButtonChannel.tick_remain_of_clear_of_le_one _ hclear (by rw [hone]; rfl),
    ButtonChannel.tick_stable_of_resolving _ hclear hone⟩

/-- Settles O20: inside the window by R81, and after it because a pending latch settles at the level
held. -/
theorem cleanEdgeFlipsOnce : Obligations.CleanEdgeFlipsOnce := by
  intro is s i level hmode hrunning hpending _ his hpin
  have hs : s.tickEnabled = true := (tickEnabled_iff s).2 ⟨hmode, hrunning⟩
  obtain ⟨t, hrun⟩ := runEvents_exists_next is s
  refine ⟨t, hrun, fun hinside => ?_, fun hafter => ?_⟩
  · exact (runEvents_inWindow his hs hrun hpending (by omega)).2.stable
  · exact (runEvents_settling_of_pending his hs hrun hpin hpending).stable
      (runEvents_windowEnds his hs hrun) hafter

/-- R80: one burst, from its EDGE on, is inside a window that it began. -/
theorem runEvents_burst {i : Fin 8} {burst : List Instr} {s t : State}
    (hburst : ∀ e ∈ burst, isOperating e = true ∧ e ≠ .edge i) (hfirst : 1 ≤ tickCount burst)
    (hlast : tickCount burst ≤ 14) (hs : s.tickEnabled = true)
    (hrun : runEvents (.edge i :: burst) s = .next t) :
    t.tickEnabled = true ∧ t.stable[i] = s.stable[i] ∧ t.debRemain[i] ≠ 0#4 := by
  obtain ⟨s', hedge, hrest⟩ := runEvents_cons_next hrun
  rcases execEdge_next hedge with ⟨hhalted, -⟩ | ⟨-, rfl⟩
  · exact absurd (hhalted.symm.trans ((tickEnabled_iff s).1 hs).2) (by decide)
  have hpending : (latchEdge i s).edgePending[i] = true := by
    rw [latchEdge_edgePending_get, if_pos rfl]
  obtain ⟨ht, hwindow⟩ := runEvents_inWindow hburst (s := latchEdge i s) hs hrest hpending hlast
  have hremain : (t.channel i).remain.toNat = 15 - tickCount burst := hwindow.remain hfirst
  refine ⟨ht, hwindow.stable, fun hzero => ?_⟩
  rw [State.channel_remain, hzero, BitVec.toNat_ofNat] at hremain
  omega

/-- Settles O21: each burst begins the window anew, so no window ends. -/
theorem bounceNeverFlips : Obligations.BounceNeverFlips := by
  intro bursts s i hmode hrunning hne hbursts
  have hs : s.tickEnabled = true := (tickEnabled_iff s).2 ⟨hmode, hrunning⟩
  clear hmode hrunning
  induction bursts generalizing s with
  | nil => exact absurd rfl hne
  | cons burst bursts ih =>
    obtain ⟨hburst, hfirst, hlast⟩ := hbursts burst (.head _)
    obtain ⟨s', hrun⟩ := runEvents_exists_next (.edge i :: burst) s
    obtain ⟨hs', hstable, hcounting⟩ := runEvents_burst hburst hfirst hlast hs hrun
    rw [List.flatMap_cons, runEvents_append hrun]
    rcases eq_or_ne bursts [] with rfl | hmore
    · exact ⟨s', rfl, hstable, hcounting⟩
    · obtain ⟨t, hrest, hstable', hcounting'⟩ :=
        ih s' hmore (fun b hb => hbursts b (.tail _ hb)) hs'
      exact ⟨t, hrest, hstable'.trans hstable, hcounting'⟩

/-- Settles O22: 100 ticks hold a re-poll, and outlast any window. -/
theorem repollRecoversMissedEdge : Obligations.RepollRecoversMissedEdge := by
  intro is s i level hmode hrunning his hpin hhundred
  have hs : s.tickEnabled = true := (tickEnabled_iff s).2 ⟨hmode, hrunning⟩
  obtain ⟨t, hrun⟩ := runEvents_exists_next is s
  exact ⟨t, hrun, ((runEvents_settlesByRepoll his hs hrun hpin).settling hhundred).stable
    (runEvents_windowEnds his hs hrun) (by omega)⟩

end Sys2Proof.Machine
end

section
/-! PROOF. EDGE, a cycle with an edge and a tick, and events in the wrong phase (40_debounce.md R73,
R83, R86, 41_axis_scaler.md R91). -/

namespace Sys2Proof.Machine

/-! ### One EDGE -/

theorem exec_edge_of_running (ch : Fin 8) {s : State} (h : s.halted = false) :
    exec (.edge ch) s = .next (latchEdge ch s) :=
  if_neg (by simp [h])

/-- Settles O11: while halted the event is skipped, and otherwise one entry of one field is set. -/
theorem edgeSetsOnlyItsLatch : Obligations.EdgeSetsOnlyItsLatch := by
  intro ch s
  refine ⟨fun hhalted => if_pos hhalted, fun hrunning => ?_⟩
  refine ⟨_, exec_edge_of_running ch hrunning, rfl, ?_, fun j hj => ?_⟩
  · rw [latchEdge_edgePending_get, if_pos rfl]
  · rw [latchEdge_edgePending_get, if_neg hj]

/-! ### A cycle with an EDGE and a TICK -/

/-- The EDGEs of a cycle, in any number and order, set their latches and nothing else. -/
theorem runEvents_edges (chs : List (Fin 8)) {s : State} (h : s.halted = false) :
    ∃ t, runEvents (chs.map .edge) s = .next t ∧ t = { s with edgePending := t.edgePending } ∧
      ∀ j : Fin 8, t.edgePending[j] = true ↔ j ∈ chs ∨ s.edgePending[j] = true := by
  induction chs generalizing s with
  | nil => exact ⟨s, rfl, rfl, fun j => by simp⟩
  | cons ch chs ih =>
    obtain ⟨t, hrun, hframe, hlatches⟩ := ih (s := latchEdge ch s) h
    refine ⟨t, ?_, hframe, fun j => ?_⟩
    · rw [List.map_cons, runEvents_cons (exec_edge_of_running ch h), hrun]
    · rw [hlatches, latchEdge_edgePending_get]
      by_cases hj : j = ch <;> simp [hj]

/-- The channels whose EDGE a cycle presents (R72). -/
def edgeChannels (e : BitVec 8) : List (Fin 8) :=
  (List.finRange 8).filter fun i : Fin 8 => e.getLsbD i.val

theorem edgeEvents_eq_map (e : BitVec 8) : edgeEvents e = (edgeChannels e).map .edge := rfl

theorem mem_edgeChannels (e : BitVec 8) (i : Fin 8) :
    i ∈ edgeChannels e ↔ e.getLsbD i.val = true := by
  simp [edgeChannels]

/-- The events of a cycle that come between a RESET or a fault and the TICK (60_exceptions.md
R121). -/
def completions (c : CycleIn) : List Instr :=
  (if c.txDone then [.txDone] else []) ++
  (if c.convDone then [.convDone c.raw[0] c.raw[1] c.raw[2] c.raw[3]] else [])

theorem serialise_of_tick {c : CycleIn} (hrst : c.rst = false) (hfault : c.platFault = false)
    (htick : c.tick = true) :
    serialise c = completions c ++ .tick c.pin :: (edgeChannels c.edge).map .edge := by
  simp [serialise, completions, hrst, hfault, htick, edgeEvents_eq_map]

theorem isOperating_of_mem_completions {c : CycleIn} {e : Instr} (h : e ∈ completions c) :
    isOperating e = true := by
  rcases List.mem_append.1 h with h | h <;> split at h <;> simp_all [isOperating]

theorem ne_edge_of_mem_completions {c : CycleIn} {e : Instr} (h : e ∈ completions c) (i : Fin 8) :
    e ≠ .edge i := by
  rcases List.mem_append.1 h with h | h <;> split at h <;> simp_all

theorem tickCount_completions (c : CycleIn) : tickCount (completions c) = 0 := by
  unfold completions
  cases c.txDone <;> cases c.convDone <;> rfl

/-- The completions of a cycle leave every button channel as it was. -/
theorem runEvents_completions_channel {c : CycleIn} {s t : State} (hs : s.tickEnabled = true)
    (hrun : runEvents (completions c) s = .next t) (i : Fin 8) :
    t.tickEnabled = true ∧ t.channel i = s.channel i := by
  obtain ⟨ht, hchannel⟩ := runEvents_channel (fun n c => n = 0 → c = s.channel i)
    (fun e he => ⟨isOperating_of_mem_completions he, ne_edge_of_mem_completions he i⟩)
    (fun _ _ n _ _ h => absurd h n.succ_ne_zero) hs (fun _ => rfl) hrun
  exact ⟨ht, hchannel (tickCount_completions c)⟩

/-- Settles O53: the cycle's TICK comes before its EDGEs, so they set the latch for the next TICK. -/
theorem edgeInTickCycleSurvives : Obligations.EdgeInTickCycleSurvives := by
  intro c p s i hmode hrunning hrst hfault htick hedge
  obtain ⟨s₁, hrun₁⟩ := runEvents_exists_next (completions c) s
  obtain ⟨hs₁, hchannel⟩ :=
    runEvents_completions_channel ((tickEnabled_iff s).2 ⟨hmode, hrunning⟩) hrun₁ i
  have hs₂ := (tickStep_tickEnabled Config.jic c.pin s₁).trans hs₁
  obtain ⟨t, hrun₂, hframe, hlatches⟩ := runEvents_edges (edgeChannels c.edge)
    ((tickEnabled_iff _).1 hs₂).2
  have hpending : t.edgePending[i] = true :=
    (hlatches i).2 (.inl ((mem_edgeChannels c.edge i).2 hedge))
  have hcycle : cycle c s = .next t := by
    rw [cycle, serialise_of_tick hrst hfault htick, runEvents_append hrun₁,
      runEvents_cons (exec_tick_of_tickEnabled c.pin hs₁), hrun₂]
  have ht : t.tickEnabled = true := by
    rw [hframe]
    exact hs₂
  have hremain : t.debRemain[i] = ((s.channel i).tick (pressed c.pin i)).remain := by
    rw [← hchannel, ← tickStep_channel, hframe]
    rfl
  refine ⟨t, tickStep Config.jic p t, hcycle, hpending, fun hclear hzero => ?_,
    exec_tick_of_tickEnabled p ht, tickStep_edgePending_get _ p t i,
    tickStep_debRemain_of_pending p hpending⟩
  rw [hremain]
  exact ButtonChannel.tick_remain_of_clear_of_le_one _ hclear (by simp [hzero])

/-! ### Events in the wrong phase -/

theorem releaseBuffer_of_idle {s : State} (h : s.txBusy = false) : releaseBuffer s = s := by
  rw [releaseBuffer, ← h]

/-- A halted JIC takes no event but RESET (60_exceptions.md R128). -/
theorem exec_of_halted {i : Instr} {s : State} (hhalted : s.halted = true) (hi : i ≠ .reset) :
    exec i s = .next s := by
  cases i with
  | edge ch => exact if_pos hhalted
  | tick p => exact if_neg fun h => by simp [State.tickEnabled, hhalted] at h
  | convDone r0 r1 r2 r3 =>
    simp [exec, execConvDone, State.calEnabled, State.convEnabled, hhalted]
  | txDone => exact if_pos hhalted
  | platformFault => exact if_pos hhalted
  | reset => exact absurd rfl hi

/-- An event that its phase does not expect changes nothing (R83, R91, I13). -/
theorem exec_of_not_keepsPhase {i : Instr} {s : State} (h : keepsPhase s i = false) :
    exec i s = .next s := by
  cases i with
  | edge ch => cases h
  | tick p =>
    have hmode : s.mode ≠ .run := of_decide_eq_false h
    exact if_neg fun henabled => hmode ((tickEnabled_iff s).1 henabled).1
  | convDone r0 r1 r2 r3 =>
    obtain ⟨hmode, hidle⟩ := Bool.or_eq_false_iff.1 h
    simp [exec, execConvDone, State.calEnabled, State.convEnabled, hmode, hidle]
  | txDone =>
    obtain ⟨t, hexec⟩ := exec_exists_next .txDone s
    rcases execTxDone_next hexec with ⟨-, rfl⟩ | ⟨-, rfl⟩
    · exact hexec
    · rwa [releaseBuffer_of_idle h] at hexec
  | platformFault => cases h
  | reset => cases h

/-- Settles O51: one clause for the phase and one for the halt. -/
theorem eventsOutOfPhaseHaveNoEffect : Obligations.EventsOutOfPhaseHaveNoEffect :=
  fun _ _ => ⟨exec_of_not_keepsPhase, exec_of_halted⟩

end Sys2Proof.Machine
end

section
/-! PROOF. One calibration reading (41_axis_scaler.md R88 to R90, 10_state.md R30). -/

namespace Sys2Proof.Machine

theorem sampleToSum_toNat (r : BitVec 16) : (sampleToSum r).toNat = r.toNat :=
  BitVec.toNat_setWidth_of_le (by decide)

theorem exec_convDone_of_cal (r0 r1 r2 r3 : BitVec 16) {s : State} (hcal : s.mode = .cal)
    (hrunning : s.halted = false) :
    exec (.convDone r0 r1 r2 r3) s =
      .next (calAccumulate Config.jic (samples r0 r1 r2 r3) s) :=
  if_pos ((calEnabled_iff s).2 ⟨hcal, hrunning⟩)

section
variable {s : State} (r : PerChannel (BitVec 16))

theorem addReading_calCount_toNat (h : s.calCount.toNat < 20) :
    (addReading r s).calCount.toNat = s.calCount.toNat + 1 := by
  rw [addReading_calCount, BitVec.toNat_add, BitVec.toNat_ofNat]
  omega

/-- R30: with at most 19 readings in the sum, one more fits in its 32 bits. -/
theorem addReading_calSum_toNat {ch : Fin 4} (h : s.calSum[ch].toNat ≤ 19 * 65535) :
    ((addReading r s).calSum[ch]).toNat = s.calSum[ch].toNat + r[ch].toNat := by
  have hread := r[ch].isLt
  have hget : (addReading r s).calSum[ch] = s.calSum[ch] + sampleToSum r[ch] := by simp
  rw [hget, BitVec.toNat_add_of_lt (by rw [sampleToSum_toNat]; omega), sampleToSum_toNat]

theorem calAccumulate_of_count_lt (h : s.calCount.toNat < 19) :
    calAccumulate Config.jic r s = addReading r s := by
  have hcount := addReading_calCount_toNat r (s := s) (by omega)
  rcases calAccumulate_cases Config.jic r s with ⟨-, hadd⟩ | ⟨hlast, -⟩
  · exact hadd
  · rw [← addReading_calCount r, hcount, jic_calSamples] at hlast
    omega

theorem calAccumulate_of_count_eq (h : s.calCount.toNat = 19) :
    calAccumulate Config.jic r s = calEnd Config.jic (addReading r s) := by
  have hcount := addReading_calCount_toNat r (s := s) (by omega)
  rcases calAccumulate_cases Config.jic r s with ⟨hmore, -⟩ | ⟨-, hend⟩
  · exact absurd (by rw [← addReading_calCount r, hcount, h, jic_calSamples]) hmore
  · exact hend

/-- R90: the mean of 20 samples fits in 16 bits. -/
theorem offsetOfSum_toNat {sum : BitVec 32} (h : sum.toNat ≤ 20 * 65535) :
    (offsetOfSum Config.jic sum).toNat = sum.toNat / 20 := by
  rw [offsetOfSum, floorDiv, jic_calSamples, BitVec.toNat_ofNat]
  omega

theorem calEnd_addReading_zeroOffset_toNat {ch : Fin 4} (h : s.calSum[ch].toNat ≤ 19 * 65535) :
    ((calEnd Config.jic (addReading r s)).zeroOffset[ch]).toNat =
      (s.calSum[ch].toNat + r[ch].toNat) / 20 := by
  have hsum := addReading_calSum_toNat r h
  have hread := r[ch].isLt
  have hget : (calEnd Config.jic (addReading r s)).zeroOffset[ch] =
      offsetOfSum Config.jic ((addReading r s).calSum[ch]) := by simp
  rw [hget, offsetOfSum_toNat (by omega), hsum]

end

/-- Settles O24: a reading that is not the last is added up, and neither the count nor a sum
wraps. -/
theorem calibrationReadingAccumulates : Obligations.CalibrationReadingAccumulates := by
  intro r0 r1 r2 r3 s hcal hrunning hcount hsums
  refine ⟨_, exec_convDone_of_cal r0 r1 r2 r3 hcal hrunning, ?_⟩
  rw [calAccumulate_of_count_lt _ hcount]
  exact ⟨rfl, addReading_calCount_toNat _ (by omega),
    fun ch => addReading_calSum_toNat _ (hsums ch)⟩

/-- Settles O25: the 20th reading is added up, and the mean is taken of the sum with it. -/
theorem lastReadingEndsCalibration : Obligations.LastReadingEndsCalibration := by
  intro r0 r1 r2 r3 s hcal hrunning hcount hsums
  have hlast : s.calCount + 1#5 = 20#5 := by
    rw [BitVec.eq_of_toNat_eq (y := 19#5) hcount]
    rfl
  refine ⟨_, exec_convDone_of_cal r0 r1 r2 r3 hcal hrunning, ?_⟩
  rw [calAccumulate_of_count_eq _ hcount]
  refine ⟨?_, fun ch => calEnd_addReading_zeroOffset_toNat _ (hsums ch)⟩
  rw [← hlast]
  rfl

end Sys2Proof.Machine
end

section
/-! PROOF. A whole calibration, from a RESET to its 20th reading (41_axis_scaler.md R90). -/

namespace Sys2Proof.Machine

/-! ### The readings of a sequence -/

theorem exists_eq_convDone {e : Instr} (h : isConvDone e = true) :
    ∃ r0 r1 r2 r3, e = .convDone r0 r1 r2 r3 := by
  cases e with
  | convDone r0 r1 r2 r3 => exact ⟨r0, r1, r2, r3, rfl⟩
  | edge ch => cases h
  | tick p => cases h
  | txDone => cases h
  | platformFault => cases h
  | reset => cases h

theorem ne_reset_of_isOperating {e : Instr} (h : isOperating e = true) : e ≠ .reset := by
  rintro rfl
  cases h

theorem sampleOf_of_not_convDone {e : Instr} (h : isConvDone e = false) (ch : Fin 4) :
    sampleOf ch e = 0 := by
  cases e with
  | convDone r0 r1 r2 r3 => cases h
  | edge ch => rfl
  | tick p => rfl
  | txDone => rfl
  | platformFault => rfl
  | reset => rfl

theorem convDoneCount_cons_other {e : Instr} (h : isConvDone e = false) (is : List Instr) :
    convDoneCount (e :: is) = convDoneCount is := by
  simp [convDoneCount, h]

theorem sampleTotal_cons_other {e : Instr} (h : isConvDone e = false) (ch : Fin 4)
    (is : List Instr) : sampleTotal ch (e :: is) = sampleTotal ch is := by
  rw [sampleTotal, sampleOf_of_not_convDone h, Nat.zero_add]

theorem convDoneCount_cons_convDone (r0 r1 r2 r3 : BitVec 16) (is : List Instr) :
    convDoneCount (.convDone r0 r1 r2 r3 :: is) = 1 + convDoneCount is := rfl

theorem sampleTotal_cons_convDone (r0 r1 r2 r3 : BitVec 16) (ch : Fin 4) (is : List Instr) :
    sampleTotal ch (.convDone r0 r1 r2 r3 :: is) =
      (samples r0 r1 r2 r3)[ch].toNat + sampleTotal ch is := rfl

theorem sampleTotal_of_convDoneCount_eq_zero {is : List Instr} (h : convDoneCount is = 0)
    (ch : Fin 4) : sampleTotal ch is = 0 := by
  induction is with
  | nil => rfl
  | cons e is ih =>
    cases hkind : isConvDone e with
    | false =>
      rw [convDoneCount_cons_other hkind] at h
      rw [sampleTotal_cons_other hkind, ih h]
    | true =>
      obtain ⟨r0, r1, r2, r3, rfl⟩ := exists_eq_convDone hkind
      rw [convDoneCount_cons_convDone] at h
      omega

/-! ### From reading to reading -/

/-- The calibration goes on: with the readings still to come in the events `is`, there will be 20 of
them, and each channel's samples will sum up to `total`. -/
structure State.Calibrating (is : List Instr) (total : Fin 4 → Nat) (s : State) : Prop where
  cal : s.mode = .cal
  running : s.halted = false
  more : s.calCount.toNat < 20
  count : s.calCount.toNat + convDoneCount is = 20
  sums : ∀ ch : Fin 4, s.calSum[ch].toNat + sampleTotal ch is = total ch
  bounded : ∀ ch : Fin 4, s.calSum[ch].toNat ≤ s.calCount.toNat * 65535

/-- The calibration has ended, and the zero offsets are the floored means for sums of `total`. -/
structure State.Calibrated (total : Fin 4 → Nat) (s : State) : Prop where
  run : s.mode = .run
  offsets : ∀ ch : Fin 4, s.zeroOffset[ch].toNat = total ch / 20

/-- RESET starts a calibration of the readings that follow it (70_reset_and_hazards.md R137). -/
theorem resetFields_calibrating {is : List Instr} (s : State) (h : convDoneCount is = 20) :
    (resetFields s).Calibrating is (sampleTotal · is) where
  cal := rfl
  running := rfl
  more := by simp
  count := by simp [h]
  sums := by simp
  bounded := by simp

section
variable {is : List Instr} {total : Fin 4 → Nat} {s t : State}

theorem State.Calibrating.calSum_le (h : s.Calibrating is total) (ch : Fin 4) :
    s.calSum[ch].toNat ≤ 19 * 65535 :=
  (h.bounded ch).trans (Nat.mul_le_mul_right 65535 (Nat.le_of_lt_succ h.more))

/-- An event of normal operation that brings no reading leaves the calibration as it is: a TICK has
no effect in CAL (40_debounce.md R83). -/
theorem exec_other_calibrating {e : Instr} (h : s.Calibrating (e :: is) total)
    (hop : isOperating e = true) (hkind : isConvDone e = false) (hexec : exec e s = .next t) :
    t.Calibrating is total := by
  have hcount : s.calCount.toNat + convDoneCount is = 20 :=
    convDoneCount_cons_other hkind is ▸ h.count
  have hsums (ch : Fin 4) : s.calSum[ch].toNat + sampleTotal ch is = total ch :=
    sampleTotal_cons_other hkind ch is ▸ h.sums ch
  have hkept : s.Calibrating is total := { h with count := hcount, sums := hsums }
  cases e with
  | edge ch =>
    rw [(execEdge_writers hexec).1]
    exact { hkept with }
  | tick p =>
    rcases execTick_next hexec with ⟨-, rfl⟩ | ⟨hrun, -, -⟩
    · exact hkept
    · exact absurd (hrun.symm.trans h.cal) (by decide)
  | convDone r0 r1 r2 r3 => cases hkind
  | txDone =>
    rw [(execTxDone_writers hexec).1]
    exact { hkept with }
  | platformFault => cases hop
  | reset => cases hop

section
variable {r0 r1 r2 r3 : BitVec 16} (h : s.Calibrating (.convDone r0 r1 r2 r3 :: is) total)
include h

/-- A reading before the 20th moves from the readings to come to the sums. -/
theorem addReading_calibrating (hlt : s.calCount.toNat < 19) :
    (addReading (samples r0 r1 r2 r3) s).Calibrating is total where
  cal := h.cal
  running := h.running
  more := by
    rw [addReading_calCount_toNat _ h.more]
    omega
  count := by
    have hcount := h.count
    rw [convDoneCount_cons_convDone] at hcount
    rw [addReading_calCount_toNat _ h.more]
    omega
  sums ch := by
    rw [addReading_calSum_toNat _ (h.calSum_le ch), Nat.add_assoc, ← sampleTotal_cons_convDone]
    exact h.sums ch
  bounded ch := by
    rw [addReading_calCount_toNat _ h.more]
    exact addReading_calSum_le _ h.bounded ch

/-- The 20th reading leaves no reading to come, so the sums with it are the totals. -/
theorem calEnd_calibrated (hlast : s.calCount.toNat = 19) :
    (calEnd Config.jic (addReading (samples r0 r1 r2 r3) s)).Calibrated total where
  run := rfl
  offsets ch := by
    have hcount := h.count
    rw [convDoneCount_cons_convDone] at hcount
    have hrest := sampleTotal_of_convDoneCount_eq_zero (is := is) (by omega) ch
    have hsum := h.sums ch
    rw [sampleTotal_cons_convDone, hrest, Nat.add_zero] at hsum
    rw [calEnd_addReading_zeroOffset_toNat _ (h.calSum_le ch), hsum]

theorem exec_convDone_calibrating (hexec : exec (.convDone r0 r1 r2 r3) s = .next t) :
    t.Calibrating is total ∨ t.Calibrated total := by
  rw [exec_convDone_of_cal r0 r1 r2 r3 h.cal h.running, Host.Outcome.next.injEq] at hexec
  subst hexec
  rcases Nat.lt_or_eq_of_le (Nat.le_of_lt_succ h.more) with hlt | hlast
  · rw [calAccumulate_of_count_lt _ hlt]
    exact .inl (addReading_calibrating h hlt)
  · rw [calAccumulate_of_count_eq _ hlast]
    exact .inr (calEnd_calibrated h hlast)

end

/-- In RUN only RESET changes the mode or writes a zero offset (70_reset_and_hazards.md R139). -/
theorem exec_of_run_keeps_offsets {e : Instr} (hrun : s.mode = .run) (he : e ≠ .reset)
    (hexec : exec e s = .next t) : t.mode = .run ∧ t.zeroOffset = s.zeroOffset := by
  cases e with
  | edge ch =>
    rw [(execEdge_writers hexec).1]
    exact ⟨hrun, rfl⟩
  | tick p =>
    rw [(execTick_writers hexec).1]
    exact ⟨hrun, rfl⟩
  | convDone r0 r1 r2 r3 =>
    rcases execConvDone_next hexec with ⟨-, rfl⟩ | ⟨hcal, -, -⟩ | ⟨-, -, -, rfl⟩ | ⟨-, -, -, rfl⟩
    · exact ⟨hrun, rfl⟩
    · exact absurd (hcal.symm.trans hrun) (by decide)
    · rw [conversionStep_eq_update]
      exact ⟨hrun, rfl⟩
    · exact ⟨hrun, rfl⟩
  | txDone =>
    rw [(execTxDone_writers hexec).1]
    exact ⟨hrun, rfl⟩
  | platformFault =>
    rw [(execPlatformFault_writers hexec).1]
    exact ⟨hrun, rfl⟩
  | reset => exact absurd rfl he

theorem exec_calibrated {e : Instr} (h : s.Calibrated total) (he : e ≠ .reset)
    (hexec : exec e s = .next t) : t.Calibrated total := by
  obtain ⟨hrun, hkept⟩ := exec_of_run_keeps_offsets h.run he hexec
  exact ⟨hrun, hkept ▸ h.offsets⟩

/-- The induction over the events of a calibration: the readings still to come run out with the
20th, and the offsets stay through the events after it. -/
theorem runEvents_calibrated (h : s.Calibrating is total)
    (hop : ∀ e ∈ is, isOperating e = true) :
    ∃ t, runEvents is s = .next t ∧ t.Calibrated total := by
  induction is generalizing s with
  | nil => exact absurd h.count h.more.ne
  | cons e is ih =>
    have hop' : ∀ e' ∈ is, isOperating e' = true := fun e' he' => hop e' (.tail _ he')
    obtain ⟨s', hexec⟩ := exec_exists_next e s
    rw [runEvents_cons hexec]
    cases hkind : isConvDone e with
    | false => exact ih (exec_other_calibrating h (hop e (.head _)) hkind hexec) hop'
    | true =>
      obtain ⟨r0, r1, r2, r3, rfl⟩ := exists_eq_convDone hkind
      rcases exec_convDone_calibrating h hexec with hgoes | hends
      · exact ih hgoes hop'
      · exact runEvents_preserves (State.Calibrated total)
          (fun e' he' _ _ hs => exec_calibrated hs (ne_reset_of_isOperating (hop' e' he'))) hends

end

/-- Settles O26: RESET starts the calibration, and the 20 readings after it end it. -/
theorem offsetIsTheFlooredMean : Obligations.OffsetIsTheFlooredMean := by
  intro is s hop hcount
  obtain ⟨t, hrun, hcalibrated⟩ := runEvents_calibrated (resetFields_calibrating s hcount) hop
  have hreset : exec .reset s = .next (resetFields s) := rfl
  exact ⟨t, (runEvents_cons hreset).trans hrun, hcalibrated.run, hcalibrated.offsets⟩

end Sys2Proof.Machine
end

section
/-! PROOF. The scaler's arithmetic: the scale, the dead zone and the signs (41_axis_scaler.md R93 to
R98). -/

namespace Sys2Proof.Machine

/-! ### The scale -/

theorem scaleDelta_natCast (n : Nat) : scaleDelta Config.jic n = (n * 100 / 2048 : Nat) :=
  (Int.ofNat_tdiv (n * 100) 2048).symm

/-- Rounding toward zero treats both signs alike. -/
theorem scaleDelta_neg (c : Config) (d : Int) : scaleDelta c (-d) = -scaleDelta c d := by
  rw [scaleDelta, truncDiv, Int.neg_mul, Int.neg_tdiv]
  rfl

/-- R94: 100 / 2048 = 25 / 512, and dividing by 512 is shifting right by 9. -/
theorem mul_div_eq_shiftRight (n : Nat) : n * 100 / 2048 = (n * 25) >>> 9 := by
  rw [Nat.shiftRight_eq_div_pow]
  omega

theorem scaleDelta_eq_sign_mul_shift (d : Int) :
    scaleDelta Config.jic d = d.sign * ((d.natAbs * 25) >>> 9 : Nat) := by
  have hnat (n : Nat) : scaleDelta Config.jic n = (n : Int).sign * ((n * 25) >>> 9 : Nat) := by
    rw [scaleDelta_natCast, mul_div_eq_shiftRight]
    cases n with
    | zero => rfl
    | succ n => exact (Int.one_mul _).symm
  obtain ⟨n, rfl | rfl⟩ := Int.eq_nat_or_neg d
  · exact hnat n
  · rw [scaleDelta_neg, hnat, Int.sign_neg, Int.neg_mul, Int.natAbs_neg, Int.natAbs_natCast]

/-- Settles O28: the shift form holds for every difference. -/
theorem scaleIsTheShiftForm : Obligations.ScaleIsTheShiftForm :=
  fun raw offset => scaleDelta_eq_sign_mul_shift (offsetDelta raw offset)

/-! ### The range -/

theorem natAbs_offsetDelta_le_of_le {raw offset : BitVec 16} {m : Nat} (hraw : raw.toNat ≤ m)
    (hoffset : offset.toNat ≤ m) : (offsetDelta raw offset).natAbs ≤ m := by
  unfold offsetDelta
  omega

/-- The dead zone and the sign make no magnitude larger. -/
theorem natAbs_applySign_scaledValue_le (sg : Sign) (raw offset : BitVec 16) :
    (applySign sg (scaledValue Config.jic raw offset)).natAbs ≤
      (scaleDelta Config.jic (offsetDelta raw offset)).natAbs :=
  (natAbs_applySign sg _).trans_le (natAbs_deadZone_le _ _)

/-- Settles O29: 65535 * 100 / 2048 = 3199 and 4095 * 100 / 2048 = 199. -/
theorem scaledRangeIsBounded : Obligations.ScaledRangeIsBounded := by
  intro raw offset sg
  have hscale := natAbs_scaleDelta (offsetDelta raw offset)
  have hdelta := natAbs_offsetDelta_le raw offset
  have hsigned := natAbs_applySign_scaledValue_le sg raw offset
  refine ⟨by omega, natAbs_scaledValue_le raw offset, by omega, fun hraw hoffset => ?_⟩
  have hdelta' := natAbs_offsetDelta_le_of_le hraw hoffset
  exact ⟨by omega, by omega⟩

/-! ### The dead zone -/

theorem deadZone_jic (v : Int) : deadZone Config.jic v = if v.natAbs < 7 then 0 else v := rfl

theorem deadZone_eq_zero_iff (v : Int) : deadZone Config.jic v = 0 ↔ v.natAbs < 7 := by
  rw [deadZone_jic]
  split <;> omega

/-- Settles O30: 143 * 100 / 2048 = 6 and 144 * 100 / 2048 = 7. -/
theorem deadZoneEdgeIsAt144 : Obligations.DeadZoneEdgeIsAt144 := by
  refine ⟨fun v => ?_, fun raw offset => ⟨?_, fun hdelta => ?_, fun hdelta => ?_⟩⟩
  · have hiff : v.natAbs < 7 ↔ -6 ≤ v ∧ v ≤ 6 := by omega
    simp only [deadZone_jic, hiff]
  · rw [scaledValue, deadZone_eq_zero_iff, natAbs_scaleDelta]
    omega
  · rw [scaledValue, hdelta]
    rfl
  · rw [scaledValue, hdelta]
    rfl

/-- R98: the dead zone looks at the magnitude, which the sign keeps. -/
theorem deadZone_applySign (c : Config) (sg : Sign) (v : Int) :
    deadZone c (applySign sg v) = applySign sg (deadZone c v) := by
  rw [deadZone, natAbs_applySign, deadZone]
  split
  · cases sg <;> rfl
  · rfl

/-! ### A consumed conversion -/

theorem exec_convDone_of_run (r0 r1 r2 r3 : BitVec 16) {s : State} (hrun : s.mode = .run)
    (hrunning : s.halted = false) (hbusy : s.convBusy = true) :
    exec (.convDone r0 r1 r2 r3) s =
      .next (conversionStep Config.jic (samples r0 r1 r2 r3) s) := by
  have hcal : ¬ s.calEnabled = true := by simp [calEnabled_iff, hrun]
  exact (if_neg hcal).trans (if_pos ((convEnabled_iff s).2 ⟨hrun, hbusy, hrunning⟩))

/-- R95: what is stored in 16 bits is the exact value. -/
theorem conversionStep_chScaled_toInt (r : PerChannel (BitVec 16)) (s : State) (ch : Fin 4) :
    ((conversionStep Config.jic r s).chScaled[ch]).toInt =
      scaledValue Config.jic r[ch] s.zeroOffset[ch] := by
  have hget : (conversionStep Config.jic r s).chScaled[ch] =
      BitVec.ofInt 16 (scaledValue Config.jic r[ch] s.zeroOffset[ch]) := by simp
  rw [hget, toInt_ofInt_of_natAbs_le (natAbs_scaledValue_le _ _)]

/-- R97: each axis is stored as its source channel's value under its sign. -/
theorem conversionStep_ax_toInt (r : PerChannel (BitVec 16)) (s : State) (k : Fin 4) :
    ((conversionStep Config.jic r s).frame.ax[k]).toInt =
      applySign Config.jic.axisMap.sgn[k]
        ((conversionStep Config.jic r s).chScaled[Config.jic.axisMap.src[k]]).toInt := by
  rw [conversionStep_frame, axisVector_get, conversionStep_chScaled_toInt]
  exact toInt_ofInt_of_natAbs_le ((natAbs_applySign _ _).trans_le (natAbs_scaledValue_le _ _))

/-- Settles O27: the stored value is the exact one, which is R92's formula. -/
theorem conversionScalesExactly : Obligations.ConversionScalesExactly := by
  intro r0 r1 r2 r3 s hrun hrunning hbusy
  refine ⟨_, exec_convDone_of_run r0 r1 r2 r3 hrun hrunning hbusy, conversionStep_raw _ _ s,
    conversionStep_convBusy _ _ s, fun ch => ⟨_, _, rfl, rfl, ?_⟩⟩
  rw [conversionStep_chScaled_toInt]
  rfl

/-- Settles O31: the axis is the dead-zoned value under its sign, and the two commute. -/
theorem axisOrderOfDeadZoneAndRemapAgree : Obligations.AxisOrderOfDeadZoneAndRemapAgree := by
  intro r0 r1 r2 r3 s hrun hrunning hbusy
  refine ⟨_, exec_convDone_of_run r0 r1 r2 r3 hrun hrunning hbusy, ?_⟩
  rintro k _ _ rfl rfl
  have hax := conversionStep_ax_toInt (samples r0 r1 r2 r3) s k
  rw [deadZone_applySign, ← scaledValue, ← conversionStep_chScaled_toInt]
  exact ⟨hax, hax, hax⟩

end Sys2Proof.Machine
end

section
/-! PROOF. The frame of a conversion (42_packet_assembler.md R102, R111, 20_memory.md R49,
70_reset_and_hazards.md R144). -/

namespace Sys2Proof.Machine

/-- Settles O33: the frame is committed before the hand-off, which writes only its own fields. -/
theorem conversionCommitsTheFrameWhole : Obligations.ConversionCommitsTheFrameWhole := by
  intro r0 r1 r2 r3 s hrun hrunning hbusy
  refine ⟨_, exec_convDone_of_run r0 r1 r2 r3 hrun hrunning hbusy, conversionStep_frame _ _ s, ?_⟩
  have hframe := conversionStep_eq_update Config.jic (samples r0 r1 r2 r3) s
  rwa [conversionStep_convBusy, conversionStep_frameValid, conversionStep_txBusy] at hframe

/-- R79: what a tick does to the snapshot, the request and the trace, told by the counter before
it. -/
theorem tickStep_boundary_cases (p : BitVec 8) (s : State) :
    ((s.snapCnt.toNat + 1) % 20 ≠ 0 ∧ (tickStep Config.jic p s).btnSnap = s.btnSnap ∧
      (tickStep Config.jic p s).convBusy = s.convBusy ∧
      (tickStep Config.jic p s).trace = s.trace) ∨
    ((s.snapCnt.toNat + 1) % 20 = 0 ∧
      (tickStep Config.jic p s).btnSnap = (tickStep Config.jic p s).stable ∧
      (tickStep Config.jic p s).convBusy = true ∧
      (tickStep Config.jic p s).trace = s.trace ++ [.convStart]) := by
  have hiff := tickStep_snapCnt_eq_zero_iff p s
  rw [tickStep_snapCnt] at hiff
  simpa only [ne_eq, hiff] using tickStep_boundary Config.jic p s

/-- In RUN and not halted, a conversion is outstanding, with the snapshot that its answer will be
paired with and the offsets that its samples will be scaled by. -/
structure State.Awaits (snap : PerButton Bool) (offsets : PerChannel (BitVec 16)) (s : State) :
    Prop where
  run : s.mode = .run
  running : s.halted = false
  busy : s.convBusy = true
  snapshot : s.btnSnap = snap
  offset : s.zeroOffset = offsets

section
variable {snap : PerButton Bool} {offsets : PerChannel (BitVec 16)} {s : State}

theorem tickStep_awaits_of_boundary (p : BitVec 8) (hrun : s.mode = .run)
    (hrunning : s.halted = false) (hboundary : (s.snapCnt.toNat + 1) % 20 = 0) :
    (tickStep Config.jic p s).Awaits (tickStep Config.jic p s).stable s.zeroOffset := by
  rcases tickStep_boundary_cases p s with ⟨hother, -⟩ | ⟨-, hsnap, hbusy, -⟩
  · exact absurd hboundary hother
  · exact ⟨by simp [hrun], by simp [hrunning], hbusy, hsnap, by rw [tickStep_frame]⟩

theorem tickStep_awaits_of_inTime {p : BitVec 8} (h : s.Awaits snap offsets)
    (hintime : answersInTime s (.tick p) = true) :
    (tickStep Config.jic p s).Awaits snap offsets := by
  rcases tickStep_boundary_cases p s with ⟨-, hsnap, hbusy, -⟩ | ⟨hboundary, -⟩
  · exact ⟨by simp [h.run], by simp [h.running], hbusy.trans h.busy, hsnap.trans h.snapshot,
      by rw [tickStep_frame]; exact h.offset⟩
  · simp [answersInTime, h.busy, nextCount, hboundary] at hintime

/-- R111: until the answer, only a boundary could replace the snapshot. -/
theorem exec_awaits {e : Instr} {t : State} (h : s.Awaits snap offsets)
    (hop : isOperating e = true) (hconv : isConvDone e = false)
    (hintime : answersInTime s e = true) (hexec : exec e s = .next t) :
    t.Awaits snap offsets := by
  cases e with
  | edge ch =>
    rw [(execEdge_writers hexec).1]
    exact ⟨h.run, h.running, h.busy, h.snapshot, h.offset⟩
  | tick p =>
    rcases execTick_next hexec with ⟨-, rfl⟩ | ⟨-, -, rfl⟩
    · exact h
    · exact tickStep_awaits_of_inTime h hintime
  | convDone r0 r1 r2 r3 => cases hconv
  | txDone =>
    rw [(execTxDone_writers hexec).1]
    exact ⟨h.run, h.running, h.busy, h.snapshot, h.offset⟩
  | platformFault => cases hop
  | reset => cases hop

theorem latencyKept_cons {e : Instr} {is : List Instr} {t : State} (hexec : exec e s = .next t) :
    latencyKept (e :: is) s = (answersInTime s e && latencyKept is t) := by
  simp [latencyKept, hexec]

theorem runEvents_awaits {is : List Instr} (h : s.Awaits snap offsets)
    (his : ∀ e ∈ is, isOperating e = true ∧ isConvDone e = false)
    (hlatency : latencyKept is s = true) :
    ∃ t, runEvents is s = .next t ∧ t.Awaits snap offsets := by
  induction is generalizing s with
  | nil => exact ⟨s, rfl, h⟩
  | cons e is ih =>
    obtain ⟨s', hexec⟩ := exec_exists_next e s
    rw [latencyKept_cons hexec, Bool.and_eq_true] at hlatency
    obtain ⟨hintime, hrest⟩ := hlatency
    obtain ⟨hop, hconv⟩ := his e (.head _)
    rw [runEvents_cons hexec]
    exact ih (exec_awaits h hop hconv hintime hexec) (fun e' he' => his e' (.tail _ he')) hrest

end

/-- Settles O36: the boundary's snapshot waits for the answer, which commits it with the axes of
its own samples. -/
theorem framePairsSnapshotWithItsConversion : Obligations.FramePairsSnapshotWithItsConversion := by
  intro p is r0 r1 r2 r3 s s1 hrun hrunning hboundary htick his hlatency
  obtain rfl : tickStep Config.jic p s = s1 := by
    simpa [exec_tick_of_run p hrun hrunning] using htick
  obtain ⟨s2, hevents, hawaits⟩ := runEvents_awaits
    (tickStep_awaits_of_boundary p hrun hrunning hboundary) his hlatency
  refine ⟨s2, _, hevents, exec_convDone_of_run r0 r1 r2 r3 hawaits.run hawaits.running hawaits.busy,
    conversionStep_frameValid _ _ s2, ?_, fun k => ?_⟩
  · rw [conversionStep_frame]
    exact hawaits.snapshot
  · rw [conversionStep_ax_toInt, conversionStep_chScaled_toInt, hawaits.offset]

end Sys2Proof.Machine
end

section
/-! PROOF. A whole packet, as a receiver sees it (30_encoding.md R67, R70, R71,
42_packet_assembler.md R103 to R105). -/

namespace Sys2Proof.Machine

theorem digitChar_ne_newline {d : Nat} (hd : d < 10) : digitChar d ≠ chNewline := by
  rw [← BitVec.toNat_ne_iff_ne, digitChar_toNat hd, chNewline, BitVec.toNat_ofNat]
  omega

theorem newline_notMem_dec (v : Int) : chNewline ∉ dec v := by
  intro hmem
  rcases mem_dec hmem with h | ⟨d, hd, h⟩
  · exact absurd h (by decide)
  · exact digitChar_ne_newline hd h.symm

theorem newline_notMem_renderAxes (ax : PerChannel (BitVec 16)) :
    chNewline ∉ renderAxes ax := by
  have hcomma : chNewline ≠ chComma := by decide
  simp [renderAxes, newline_notMem_dec, hcomma]

theorem newline_ne_btnChar (b : Bool) : chNewline ≠ btnChar b := by
  cases b <;> decide

theorem newline_notMem_renderButtons (btn : PerButton Bool) :
    chNewline ∉ renderButtons btn := by
  simp [renderButtons, newline_ne_btnChar]

/-- The bytes of a packet before its newline. -/
def renderBody (f : Frame) : List Byte :=
  [chB, chColon] ++ renderButtons f.btn ++ [chComma, chA, chColon] ++ renderAxes f.ax

theorem render_eq_body_append (f : Frame) : render f = renderBody f ++ [chNewline] := rfl

theorem newline_notMem_renderBody (f : Frame) : chNewline ∉ renderBody f := by
  have hhead : chNewline ∉ [chB, chColon] := by decide
  have hmid : chNewline ∉ [chComma, chA, chColon] := by decide
  simp only [renderBody, List.mem_append, not_or]
  exact ⟨⟨⟨hhead, newline_notMem_renderButtons f.btn⟩, hmid⟩, newline_notMem_renderAxes f.ax⟩

/-- Settles O37: the newline ends the packet, and no character before it is one. -/
theorem renderedPacketsReadBack : Obligations.RenderedPacketsReadBack := by
  intro f hrange
  obtain ⟨hmin, hmax⟩ := length_render_range hrange
  refine ⟨parsePacket_render hrange, hmin, hmax, ?_, ?_⟩ <;> rw [render_eq_body_append]
  · exact List.getLast?_concat
  · rw [List.dropLast_concat]
    exact newline_notMem_renderBody f

end Sys2Proof.Machine
end

section
/-! PROOF. The hand-off of a packet (42_packet_assembler.md R106, R107, R117). -/

namespace Sys2Proof.Machine

/-! ### To an idle transport -/

/-- `TXBUF` and `TX_LEN` hold the packet of the committed frame. -/
structure State.HoldsPacket (s : State) : Prop where
  bytes : s.txBuf.toList.take (render s.frame).length = render s.frame
  length : s.txLen.toNat = (render s.frame).length

theorem sendPacket_holdsPacket {s : State} (hlen : (render s.frame).length ≤ 37) :
    (sendPacket s).HoldsPacket := by
  constructor <;> rw [sendPacket_frame]
  · rw [sendPacket_txBuf, packetBuffer_take hlen]
  · exact sendPacket_txLen_toNat hlen

section
variable (r : PerChannel (BitVec 16)) {s : State}

theorem conversionStep_of_idle (c : Config) (hidle : s.txBusy = false) :
    conversionStep c r s = sendPacket (commit c (consumeRequest (scaleStep c r s))) :=
  if_neg (by simp [hidle])

variable (s) in
/-- R95, R97: every committed axis is in range. -/
theorem conversionStep_ax_range (k : Fin 4) :
    ((conversionStep Config.jic r s).frame.ax[k]).toInt.natAbs ≤ 3199 := by
  rw [conversionStep_ax_toInt, natAbs_applySign, conversionStep_chScaled_toInt]
  exact natAbs_scaledValue_le _ _

variable (s) in
theorem length_render_conversionStep :
    21 ≤ (render (conversionStep Config.jic r s).frame).length ∧
      (render (conversionStep Config.jic r s).frame).length ≤ 37 :=
  length_render_range (conversionStep_ax_range r s)

theorem conversionStep_holdsPacket (hidle : s.txBusy = false) :
    (conversionStep Config.jic r s).HoldsPacket := by
  have hlen := (length_render_conversionStep r s).2
  rw [conversionStep_of_idle r _ hidle] at hlen ⊢
  rw [sendPacket_frame] at hlen
  exact sendPacket_holdsPacket hlen

theorem conversionStep_trace_of_idle (c : Config) (hidle : s.txBusy = false) :
    (conversionStep c r s).trace =
      s.trace ++ [.txStart (render (conversionStep c r s).frame).length] := by
  rw [conversionStep_of_idle r c hidle, sendPacket_frame]
  exact sendPacket_trace _

end

/-- Settles O34: the packet handed over is that of the frame just committed. -/
theorem idleTransportGetsThePacket : Obligations.IdleTransportGetsThePacket := by
  intro r0 r1 r2 r3 s hrun hrunning hbusy hidle
  have hholds := conversionStep_holdsPacket (samples r0 r1 r2 r3) hidle
  exact ⟨_, exec_convDone_of_run r0 r1 r2 r3 hrun hrunning hbusy, hholds.bytes, hholds.length,
    conversionStep_txBusy _ _ s, conversionStep_trace_of_idle _ _ hidle⟩

/-! ### To a busy transport -/

theorem conversionStep_of_busy (c : Config) (r : PerChannel (BitVec 16)) {s : State}
    (hbusy : s.txBusy = true) :
    conversionStep c r s = commit c (consumeRequest (scaleStep c r s)) :=
  if_pos hbusy

/-- Settles O35: with the hand-off skipped, the conversion ends with the commit. -/
theorem busyTransportDropsThePacket : Obligations.BusyTransportDropsThePacket := by
  intro r0 r1 r2 r3 s hrun hrunning hbusy htx
  refine ⟨_, exec_convDone_of_run r0 r1 r2 r3 hrun hrunning hbusy, ?_⟩
  rw [conversionStep_of_busy _ _ htx]
  exact ⟨rfl, rfl, rfl⟩

/-! ### The worked example -/

/-- The frame of the worked example (R117): button 2 pressed, the left stick's y axis at 24. -/
def workedFrame : Frame where
  btn := #v[false, false, true, false, false, false, false, false]
  ax := #v[24#16, 0#16, 0#16, 0#16]

/-- R117: `B:00100000,A:24,0,0,0` and a newline. -/
theorem render_workedFrame :
    render workedFrame =
      [0x42#8, 0x3A#8, 0x30#8, 0x30#8, 0x31#8, 0x30#8, 0x30#8, 0x30#8, 0x30#8, 0x30#8, 0x2C#8,
       0x41#8, 0x3A#8, 0x32#8, 0x34#8, 0x2C#8, 0x30#8, 0x2C#8, 0x30#8, 0x2C#8, 0x30#8, 0x0A#8] := by
  decide

/-- Settles O39: the hand-off sends the example's bytes, of which there are 22. -/
theorem workedExampleIsHandedOff : Obligations.WorkedExampleIsHandedOff := by
  intro s hidle hframe
  have hframe' : s.frame = workedFrame := hframe
  have hlen : (render s.frame).length = 22 := by rw [hframe', render_workedFrame]; rfl
  have hbytes := (sendPacket_holdsPacket (s := s) (by omega)).bytes
  rw [sendPacket_frame, hlen, hframe', render_workedFrame] at hbytes
  have hsent : handoff s = sendPacket s := if_neg (by simp [hidle])
  rw [hsent]
  refine ⟨hbytes, ?_, sendPacket_txBusy s, ?_⟩
  · rw [sendPacket_txLen, hlen]
  · rw [sendPacket_trace, hlen]

end Sys2Proof.Machine
end

section
/-! PROOF. What the events emit (42_packet_assembler.md R112, R113, R115, 10_state.md R39). -/

namespace Sys2Proof.Machine

/-- Everything an event can emit, with what it does to the request: nothing, and no request is
made; a boundary's `ConvStart`; or the `TxStart` of a conversion, which uses a request up. -/
theorem exec_pulse_cases {i : Instr} {s t : State} (hexec : exec i s = .next t) :
    (t.trace = s.trace ∧ (t.convBusy = true → s.convBusy = true)) ∨
    (isTick i = true ∧ s.mode = .run ∧ s.halted = false ∧ (s.snapCnt.toNat + 1) % 20 = 0 ∧
      t.trace = s.trace ++ [.convStart]) ∨
    (isConvDone i = true ∧ s.convBusy = true ∧ t.convBusy = false ∧ s.txBusy = false ∧
      ∃ n, 21 ≤ n ∧ n ≤ 37 ∧ t.trace = s.trace ++ [.txStart n]) := by
  cases i with
  | edge ch =>
    rw [(execEdge_writers hexec).1]
    exact .inl ⟨rfl, id⟩
  | tick p =>
    rcases execTick_next hexec with ⟨-, rfl⟩ | ⟨hrun, hrunning, rfl⟩
    · exact .inl ⟨rfl, id⟩
    · rcases tickStep_boundary_cases p s with ⟨-, -, hbusy, htrace⟩ | ⟨hboundary, -, -, htrace⟩
      · exact .inl ⟨htrace, hbusy.symm.trans⟩
      · exact .inr (.inl ⟨rfl, hrun, hrunning, hboundary, htrace⟩)
  | convDone r0 r1 r2 r3 =>
    rcases execConvDone_next hexec with ⟨-, rfl⟩ | ⟨-, -, rfl⟩ | ⟨-, -, hbusy, rfl⟩ | ⟨-, -, -, rfl⟩
    · exact .inl ⟨rfl, id⟩
    · rw [calAccumulate_eq_update]
      exact .inl ⟨rfl, id⟩
    · cases htx : s.txBusy with
      | true =>
        rw [conversionStep_of_busy _ _ htx]
        exact .inl ⟨rfl, fun _ => hbusy⟩
      | false =>
        obtain ⟨hmin, hmax⟩ := length_render_conversionStep (samples r0 r1 r2 r3) s
        exact .inr (.inr ⟨rfl, hbusy, conversionStep_convBusy _ _ s, rfl, _, hmin, hmax,
          conversionStep_trace_of_idle _ _ htx⟩)
    · exact .inl ⟨rfl, id⟩
  | txDone =>
    rw [(execTxDone_writers hexec).1]
    exact .inl ⟨rfl, id⟩
  | platformFault =>
    rw [(execPlatformFault_writers hexec).1]
    exact .inl ⟨rfl, id⟩
  | reset =>
    obtain rfl := execReset_next hexec
    exact .inl ⟨rfl, fun h => by simp at h⟩

/-- Settles O49: the three cases are those of the pulses, without the request. -/
theorem eventsEmitOnlyTheirPulses : Obligations.EventsEmitOnlyTheirPulses := by
  intro i s t hexec
  rcases exec_pulse_cases hexec with ⟨hsilent, -⟩ | htick | ⟨hconv, hbusy, -, hidle, hpacket⟩
  · exact .inl hsilent
  · exact .inr (.inl htick)
  · exact .inr (.inr ⟨hconv, hbusy, hidle, hpacket⟩)

theorem countTxStart_append (os os' : List Output) :
    countTxStart (os ++ os') = countTxStart os + countTxStart os' := by
  induction os with
  | nil => exact (Nat.zero_add _).symm
  | cons o os ih =>
    cases o with
    | convStart => rw [List.cons_append, countTxStart, countTxStart, ih]
    | txStart n => rw [List.cons_append, countTxStart, countTxStart, ih, Nat.add_right_comm]

/-- From state `s` to state `t` of one run, every packet handed over and the request outstanding at
the end, if there is one, go back to a request made meanwhile or outstanding at the start. -/
def State.Balanced (s t : State) : Prop :=
  ∃ os, t.trace = s.trace ++ os ∧
    countTxStart os + t.convBusy.toNat ≤ countConvStart os + s.convBusy.toNat

theorem State.Balanced.refl (s : State) : s.Balanced s :=
  ⟨[], (List.append_nil _).symm, le_rfl⟩

theorem State.Balanced.trans {s t u : State} (h : s.Balanced t) (h' : t.Balanced u) :
    s.Balanced u := by
  obtain ⟨os, htrace, hcount⟩ := h
  obtain ⟨os', htrace', hcount'⟩ := h'
  refine ⟨os ++ os', by rw [htrace', htrace, List.append_assoc], ?_⟩
  rw [countTxStart_append, countConvStart_append]
  omega

/-- R115: a boundary pays for one packet in advance, and a conversion uses up its request whether
or not its packet is sent. -/
theorem exec_balanced {i : Instr} {s t : State} (hexec : exec i s = .next t) : s.Balanced t := by
  rcases exec_pulse_cases hexec with
    ⟨htrace, hbusy⟩ | ⟨-, -, -, -, htrace⟩ | ⟨-, hbusy, hdone, -, n, -, -, htrace⟩
  · have hle : t.convBusy.toNat ≤ s.convBusy.toNat := Bool.toNat_le_toNat hbusy
    exact ⟨[], by rw [htrace, List.append_nil], by simpa [countTxStart, countConvStart] using hle⟩
  · refine ⟨[.convStart], htrace, ?_⟩
    have := Bool.toNat_le t.convBusy
    simp only [countTxStart, countConvStart]
    omega
  · exact ⟨[.txStart n], htrace, by simp [countTxStart, countConvStart, hbusy, hdone]⟩

/-- Settles O50: with no request outstanding at the start, only requests of the run pay. -/
theorem packetsNeverOutnumberBoundaries : Obligations.PacketsNeverOutnumberBoundaries := by
  intro is s hidle
  obtain ⟨t, hrun, os, htrace, hcount⟩ := runEvents_preserves s.Balanced
    (fun _ _ _ _ h hexec => h.trans (exec_balanced hexec)) (is := is) (.refl s)
  refine ⟨t, hrun, ?_⟩
  rw [outputsBetween, htrace, List.drop_left]
  simp only [hidle, Bool.toNat_false] at hcount
  omega

end Sys2Proof.Machine
end

section
/-! PROOF. The buffer while the transport owns it (42_packet_assembler.md R108, R109, R114,
20_memory.md R46, R49). -/

namespace Sys2Proof.Machine

theorem exec_txDone_of_running {s : State} (h : s.halted = false) :
    exec .txDone s = .next (releaseBuffer s) :=
  if_neg (by simp [h])

/-- Settles O40: while halted the event is skipped, and otherwise the buffer is released. -/
theorem txDoneOnlyReleasesTheBuffer : Obligations.TxDoneOnlyReleasesTheBuffer :=
  fun _ => ⟨fun hhalted => exec_of_halted hhalted (by decide), exec_txDone_of_running⟩

/-- The transport owns the buffer, which holds these bytes under this length. -/
structure State.Owns (buf : TxBytes) (len : BitVec 6) (s : State) : Prop where
  busy : s.txBusy = true
  bytes : s.txBuf = buf
  length : s.txLen = len

/-- R109: of the events but TX_DONE and RESET only a hand-off writes the buffer, and it waits for
an idle transport. -/
theorem exec_owns {buf : TxBytes} {len : BitVec 6} {e : Instr} {s t : State}
    (he : e ≠ .txDone ∧ e ≠ .reset) (h : s.Owns buf len) (hexec : exec e s = .next t) :
    t.Owns buf len := by
  cases e with
  | edge ch =>
    rw [(execEdge_writers hexec).1]
    exact ⟨h.busy, h.bytes, h.length⟩
  | tick p =>
    rw [(execTick_writers hexec).1]
    exact ⟨h.busy, h.bytes, h.length⟩
  | convDone r0 r1 r2 r3 =>
    rcases execConvDone_next hexec with ⟨-, rfl⟩ | ⟨-, -, rfl⟩ | ⟨-, -, -, rfl⟩ | ⟨-, -, -, rfl⟩
    · exact h
    · rw [calAccumulate_eq_update]
      exact ⟨h.busy, h.bytes, h.length⟩
    · rw [conversionStep_of_busy _ _ h.busy]
      exact ⟨h.busy, h.bytes, h.length⟩
    · exact h
  | txDone => exact absurd rfl he.1
  | platformFault =>
    rw [(execPlatformFault_writers hexec).1]
    exact ⟨h.busy, h.bytes, h.length⟩
  | reset => exact absurd rfl he.2

theorem runEvents_owns {is : List Instr} {s : State} (hbusy : s.txBusy = true)
    (his : ∀ e ∈ is, e ≠ .txDone ∧ e ≠ .reset) :
    ∃ t, runEvents is s = .next t ∧ t.Owns s.txBuf s.txLen :=
  runEvents_preserves (State.Owns s.txBuf s.txLen) (fun e he _ _ => exec_owns (his e he))
    ⟨hbusy, rfl, rfl⟩

/-- Settles O41: ownership lasts through the events, and TX_DONE gives back the buffer as it is. -/
theorem ownedBufferIsStable : Obligations.OwnedBufferIsStable := by
  intro is s hbusy his
  obtain ⟨t, hrun, howns⟩ := runEvents_owns hbusy his
  obtain ⟨u, hdone⟩ := exec_exists_next .txDone t
  have hkept : u = { t with txBusy := u.txBusy } := (execTxDone_writers hdone).1
  refine ⟨t, hrun, howns.bytes, howns.length, howns.busy, ⟨u, hdone, ?_, ?_⟩,
    _, rfl, resetFields_txBusy t⟩
  · rw [hkept]
    exact howns.bytes
  · rw [hkept]
    exact howns.length

/-- R114: a read inside the packet that an owned buffer holds gives the packet's byte. -/
theorem txRdata_of_take {s : State} {packet : List Byte} (hbusy : s.txBusy = true)
    (hlen : s.txLen.toNat = packet.length) (hbytes : s.txBuf.toList.take packet.length = packet)
    (draw : Nat) {addr : BitVec 6} (haddr : addr.toNat < packet.length) :
    packet[addr.toNat]? = some (txRdata draw addr s) := by
  have hfits : packet.length ≤ 37 := by
    have := congrArg List.length hbytes
    simp only [List.length_take, Vector.length_toList] at this
    omega
  have hin : addr.toNat < 37 := haddr.trans_le hfits
  have hread : txRdata draw addr s = s.txBuf[addr.toNat] := by
    rw [txRdata, if_pos ⟨hbusy, hlen ▸ haddr⟩, Vector.getElem?_eq_getElem hin, Option.getD_some]
  calc packet[addr.toNat]?
      = (s.txBuf.toList.take packet.length)[addr.toNat]? := by rw [hbytes]
    _ = s.txBuf.toList[addr.toNat]? := List.getElem?_take_of_lt haddr
    _ = some (txRdata draw addr s) := by rw [hread]; simp [hin]

/-- Settles O42: the buffer keeps the bytes of the hand-off for as long as the transport owns it. -/
theorem transportReadsTheRenderedPacket : Obligations.TransportReadsTheRenderedPacket := by
  intro r0 r1 r2 r3 is s hrun hrunning hbusy hidle his
  obtain ⟨hbytes, hlen⟩ := conversionStep_holdsPacket (samples r0 r1 r2 r3) hidle
  obtain ⟨u, hevents, howns⟩ :=
    runEvents_owns (conversionStep_txBusy Config.jic (samples r0 r1 r2 r3) s) his
  rw [← howns.length] at hlen
  rw [← howns.bytes] at hbytes
  exact ⟨_, u, exec_convDone_of_run r0 r1 r2 r3 hrun hrunning hbusy, hevents,
    fun draw _ haddr => txRdata_of_take howns.busy hlen hbytes draw haddr⟩

end Sys2Proof.Machine
end

section
/-! PROOF. The frame ports (42_packet_assembler.md R110, 30_encoding.md R72). -/

namespace Sys2Proof.Machine

/-- R72: each bit is read past the single bits of the buttons below it. -/
theorem buttonBits_getLsbD (b : PerButton Bool) (i : Fin 8) :
    (buttonBits b).getLsbD i.val = b[i] := by
  unfold buttonBits
  fin_cases i <;> simp only [BitVec.getLsbD_append, BitVec.getLsbD_ofBool] <;> simp

/-- Settles O55: the levels are the fields, and the button port lists the buttons bit by bit. -/
theorem framePortsShowTheFrame : Obligations.FramePortsShowTheFrame := by
  intro draw before after
  refine ⟨rfl, rfl, rfl, fun hvalid => ⟨if_pos hvalid, fun i => ?_⟩⟩
  have hport : (portsOut draw before after).frameBtn = buttonBits after.frame.btn := if_pos hvalid
  rw [hport, buttonBits_getLsbD]

end Sys2Proof.Machine
end

section
/-! PROOF. RUN, CAL and HALTED, and the events that move between them (60_exceptions.md R118,
R127 to R130, R135). -/

namespace Sys2Proof.Machine

/-! ### No event, and every event -/

theorem fetch_of_stream_nil {s : State} (h : s.stream = []) : fetch s = .idle := by
  rw [fetch, h]
  rfl

/-- Settles O8: an empty stream presents no event. -/
theorem idleStepHoldsTheState : Obligations.IdleStepHoldsTheState := by
  intro s hstream
  rw [step, fetch_of_stream_nil hstream]

/-- Settles O10: each arm of the dispatch answers a next state. -/
theorem everyEventCompletes : Obligations.EveryEventCompletes := exec_exists_next

/-! ### HALTED -/

theorem halt_of_halted {s : State} (h : s.halted = true) : halt s = s := by
  rw [halt, ← h]

/-- Settles O43: a JIC that runs is halted, and one that is halted has the bit already. -/
theorem platformFaultOnlyHalts : Obligations.PlatformFaultOnlyHalts := by
  intro s
  obtain ⟨t, hexec⟩ := exec_exists_next .platformFault s
  rcases execPlatformFault_next hexec with ⟨hhalted, rfl⟩ | ⟨-, rfl⟩
  · exact hexec.trans (congrArg Host.Outcome.next (halt_of_halted hhalted).symm)
  · exact hexec

theorem runEvents_of_halted {is : List Instr} {s : State} (hhalted : s.halted = true)
    (his : ∀ e ∈ is, e ≠ .reset) : runEvents is s = .next s := by
  have hkeeps : ∀ e ∈ is, ∀ u t, u = s → exec e u = .next t → t = s := by
    rintro e he _ t rfl hexec
    simpa [exec_of_halted hhalted (his e he), eq_comm] using hexec
  obtain ⟨_, hrun, rfl⟩ := runEvents_preserves (· = s) hkeeps rfl
  exact hrun

/-- Settles O44: each event but RESET leaves the halted state as it is. -/
theorem haltedStateIsLeftByResetOnly : Obligations.HaltedStateIsLeftByResetOnly := by
  intro is s hhalted his
  exact ⟨runEvents_of_halted hhalted his, resetFields s, rfl, resetFields_halted s,
    resetFields_mode s⟩

/-! ### The transitions -/

/-- A reading ends the calibration when it is the 20th (41_axis_scaler.md R88). -/
theorem calAccumulate_mode_cases (r : PerChannel (BitVec 16)) (s : State) :
    (calAccumulate Config.jic r s).mode = s.mode ∨
    (s.calCount.toNat = 19 ∧ (calAccumulate Config.jic r s).mode = .run) := by
  rcases calAccumulate_cases Config.jic r s with ⟨-, hadd⟩ | ⟨hlast, hend⟩
  · exact .inl (by rw [hadd, addReading_mode])
  · rw [jic_calSamples] at hlast
    exact .inr ⟨by bv_omega, by rw [hend, calEnd_mode]⟩

/-- Everything an event can do to `MODE`. -/
theorem exec_mode_cases {i : Instr} {s t : State} (hexec : exec i s = .next t) :
    t.mode = s.mode ∨ (i = .reset ∧ t.mode = .cal) ∨
    (isConvDone i = true ∧ s.halted = false ∧ s.calCount.toNat = 19 ∧ t.mode = .run) := by
  cases i with
  | edge ch =>
    rw [(execEdge_writers hexec).1]
    exact .inl rfl
  | tick p =>
    rw [(execTick_writers hexec).1]
    exact .inl rfl
  | convDone r0 r1 r2 r3 =>
    rcases execConvDone_next hexec with
      ⟨-, rfl⟩ | ⟨-, hrunning, rfl⟩ | ⟨-, -, -, rfl⟩ | ⟨-, -, -, rfl⟩
    · exact .inl rfl
    · rcases calAccumulate_mode_cases (samples r0 r1 r2 r3) s with hkept | ⟨hlast, hrun⟩
      · exact .inl hkept
      · exact .inr (.inr ⟨rfl, hrunning, hlast, hrun⟩)
    · exact .inl (conversionStep_mode _ _ s)
    · exact .inl rfl
  | txDone =>
    rw [(execTxDone_writers hexec).1]
    exact .inl rfl
  | platformFault =>
    rw [(execPlatformFault_writers hexec).1]
    exact .inl rfl
  | reset =>
    obtain rfl := execReset_next hexec
    exact .inr (.inl ⟨rfl, resetFields_mode s⟩)

/-- Everything an event can do to `HALTED`. -/
theorem exec_halted_cases {i : Instr} {s t : State} (hexec : exec i s = .next t) :
    t.halted = s.halted ∨ (i = .reset ∧ t.halted = false) ∨
    (i = .platformFault ∧ t.halted = true) := by
  cases i with
  | edge ch =>
    rw [(execEdge_writers hexec).1]
    exact .inl rfl
  | tick p =>
    rw [(execTick_writers hexec).1]
    exact .inl rfl
  | convDone r0 r1 r2 r3 =>
    rw [execConvDone_frame hexec]
    exact .inl rfl
  | txDone =>
    rw [(execTxDone_writers hexec).1]
    exact .inl rfl
  | platformFault =>
    rcases execPlatformFault_next hexec with ⟨-, rfl⟩ | ⟨-, rfl⟩
    · exact .inl rfl
    · exact .inr (.inr ⟨rfl, halt_halted s⟩)
  | reset =>
    obtain rfl := execReset_next hexec
    exact .inr (.inl ⟨rfl, resetFields_halted s⟩)

/-- Settles O47: a change of either field rules out the case that keeps it. -/
theorem modesChangeOnlyAsListed : Obligations.ModesChangeOnlyAsListed := fun _ _ _ hexec =>
  ⟨(exec_mode_cases hexec).resolve_left, (exec_halted_cases hexec).resolve_left⟩

end Sys2Proof.Machine
end

section
/-! PROOF. The events of one cycle, in the order of 60_exceptions.md R121. -/

namespace Sys2Proof.Machine

/-! ### Order and membership -/

/-- The events a cycle's ports can present, in the order of R121. -/
def presentable (c : CycleIn) : List Instr :=
  [.reset] ++ [.platformFault] ++ [.txDone] ++
  [.convDone c.raw[0] c.raw[1] c.raw[2] c.raw[3]] ++ [.tick c.pin] ++
  (List.finRange 8).map .edge

theorem presentable_pairwise (c : CycleIn) :
    (presentable c).Pairwise (fun a b => eventRank a < eventRank b) := by
  have hranks : (presentable c).map eventRank = List.range' 1 13 := rfl
  have hsorted : ((presentable c).map eventRank).Pairwise (· < ·) := by
    rw [hranks]
    exact List.pairwise_lt_range'
  exact List.pairwise_map.1 hsorted

theorem ite_nil_sublist {α : Type} (b : Bool) (l : List α) :
    (if b then l else []).Sublist l := by
  cases b
  · exact List.nil_sublist l
  · exact List.Sublist.refl l

/-- A cycle leaves out the events its ports do not present, and changes the order of none. -/
theorem serialise_sublist_presentable (c : CycleIn) : (serialise c).Sublist (presentable c) := by
  have hedges : (edgeEvents c.edge).Sublist ((List.finRange 8).map .edge) :=
    List.filter_sublist.map _
  exact (((((ite_nil_sublist c.rst _).append (ite_nil_sublist c.platFault _)).append
    (ite_nil_sublist c.txDone _)).append (ite_nil_sublist c.convDone _)).append
    (ite_nil_sublist c.tick _)).append hedges

theorem mem_edgeEvents (e : BitVec 8) (x : Instr) :
    x ∈ edgeEvents e ↔ ∃ i : Fin 8, e.getLsbD i.val = true ∧ .edge i = x := by
  simp only [edgeEvents_eq_map, List.mem_map, mem_edgeChannels]

/-- R72: an event is in a cycle when its port presents it. -/
theorem mem_serialise (c : CycleIn) (x : Instr) :
    x ∈ serialise c ↔
      (c.rst = true ∧ x = .reset) ∨ (c.platFault = true ∧ x = .platformFault) ∨
      (c.txDone = true ∧ x = .txDone) ∨
      (c.convDone = true ∧ x = .convDone c.raw[0] c.raw[1] c.raw[2] c.raw[3]) ∨
      (c.tick = true ∧ x = .tick c.pin) ∨
      ∃ i : Fin 8, c.edge.getLsbD i.val = true ∧ .edge i = x := by
  simp [serialise, mem_edgeEvents]

theorem perChannel_eq_iff {α : Type} (v : PerChannel α) (a b c d : α) :
    v = #v[a, b, c, d] ↔ a = v[0] ∧ b = v[1] ∧ c = v[2] ∧ d = v[3] := by
  constructor
  · rintro rfl
    exact ⟨rfl, rfl, rfl, rfl⟩
  · rintro ⟨rfl, rfl, rfl, rfl⟩
    ext i hi
    interval_cases i <;> rfl

/-- Settles O52: the order is that of the events that could be presented, and each port answers for
its own events. -/
theorem cycleEventsFollowThePriority : Obligations.CycleEventsFollowThePriority := by
  intro c
  refine ⟨(presentable_pairwise c).sublist (serialise_sublist_presentable c), ?_, ?_, ?_,
    fun r0 r1 r2 r3 => ?_, fun p => ?_, fun i => ?_⟩ <;> rw [mem_serialise]
  · simp
  · simp
  · simp
  · rw [perChannel_eq_iff]
    simp
  · simp
  · simp

/-! ### A completion, a TX_DONE and a TICK in one cycle -/

/-- The TICK of a cycle, if it presents one, and its EDGEs. -/
def tickAndEdges (c : CycleIn) : List Instr :=
  (if c.tick then [.tick c.pin] else []) ++ (edgeChannels c.edge).map .edge

theorem serialise_of_operating {c : CycleIn} (hrst : c.rst = false) (hfault : c.platFault = false) :
    serialise c = completions c ++ tickAndEdges c := by
  simp [serialise, completions, tickAndEdges, hrst, hfault, edgeEvents_eq_map]

/-- The state once a cycle's TX_DONE, if it presents one, has freed the buffer. -/
def afterTxDone (c : CycleIn) (s : State) : State :=
  if c.txDone then releaseBuffer s else s

/-- A TX_DONE writes `TX_BUSY` only. -/
theorem afterTxDone_eq_update (c : CycleIn) (s : State) :
    afterTxDone c s = { s with txBusy := (afterTxDone c s).txBusy } := by
  unfold afterTxDone
  cases c.txDone <;> rfl

/-- R121: the buffer is free for the completion of the cycle. -/
theorem afterTxDone_txBusy {c : CycleIn} {s : State} (h : c.txDone = true ∨ s.txBusy = false) :
    (afterTxDone c s).txBusy = false := by
  unfold afterTxDone
  rcases h with htx | hidle
  · rw [if_pos htx, releaseBuffer_txBusy]
  · cases c.txDone
    · exact hidle
    · exact releaseBuffer_txBusy s

theorem runEvents_txDone_of_running (c : CycleIn) {s : State} (h : s.halted = false) :
    runEvents (if c.txDone then [.txDone] else []) s = .next (afterTxDone c s) := by
  unfold afterTxDone
  cases c.txDone
  · rfl
  · exact runEvents_cons (exec_txDone_of_running h)

/-- R121: the completion comes after the TX_DONE, from the snapshot the cycle began with. -/
theorem runEvents_completions {c : CycleIn} {s : State} (hrun : s.mode = .run)
    (hrunning : s.halted = false) (hbusy : s.convBusy = true) (hconv : c.convDone = true) :
    runEvents (completions c) s =
      .next (conversionStep Config.jic (samples c.raw[0] c.raw[1] c.raw[2] c.raw[3])
        (afterTxDone c s)) := by
  have hexec : exec (.convDone c.raw[0] c.raw[1] c.raw[2] c.raw[3]) (afterTxDone c s) =
      .next (conversionStep Config.jic (samples c.raw[0] c.raw[1] c.raw[2] c.raw[3])
        (afterTxDone c s)) := by
    apply exec_convDone_of_run <;> rw [afterTxDone_eq_update] <;> assumption
  rw [completions, runEvents_append (runEvents_txDone_of_running c hrunning), if_pos hconv,
    runEvents_cons hexec, runEvents_nil]

theorem tickStep_keeps_frame (c : Config) (p : BitVec 8) (s : State) :
    (tickStep c p s).frame = s.frame := by
  simp [tickStep]

/-- The TICK and the EDGEs of a cycle leave the committed frame and the pulses before them, and a
boundary among them takes a new snapshot and asks for its conversion (R79). -/
theorem runEvents_tickAndEdges (c : CycleIn) {s : State} (hs : s.tickEnabled = true) :
    ∃ t, runEvents (tickAndEdges c) s = .next t ∧ t.frame = s.frame ∧
      t.frameValid = s.frameValid ∧ (∃ os, t.trace = s.trace ++ os) ∧
      (c.tick = true → (s.snapCnt.toNat + 1) % 20 = 0 →
        t.convBusy = true ∧ t.btnSnap = t.stable) := by
  unfold tickAndEdges
  cases c.tick with
  | false =>
    obtain ⟨t, hedges, hframe, -⟩ :=
      runEvents_edges (edgeChannels c.edge) ((tickEnabled_iff s).1 hs).2
    refine ⟨t, hedges, ?_, ?_, ⟨[], ?_⟩, nofun⟩ <;> rw [hframe]
    rw [List.append_nil]
  | true =>
    have hs' := (tickStep_tickEnabled Config.jic c.pin s).trans hs
    obtain ⟨t, hedges, hframe, -⟩ :=
      runEvents_edges (edgeChannels c.edge) ((tickEnabled_iff _).1 hs').2
    have hrun := (runEvents_cons (exec_tick_of_tickEnabled c.pin hs)).trans hedges
    refine ⟨t, hrun, ?_, ?_, ?_, ?_⟩ <;> rw [hframe]
    · exact tickStep_keeps_frame _ c.pin s
    · exact tickStep_frameValid _ c.pin s
    · rcases tickStep_boundary_cases c.pin s with ⟨-, -, -, htrace⟩ | ⟨-, -, -, htrace⟩
      · exact ⟨[], htrace.trans (List.append_nil _).symm⟩
      · exact ⟨_, htrace⟩
    · intro _ hboundary
      rcases tickStep_boundary_cases c.pin s with ⟨hother, -⟩ | ⟨-, hsnap, hbusy, -⟩
      · exact absurd hboundary hother
      · exact ⟨hbusy, hsnap⟩

/-- Settles O54: the cycle's TX_DONE, completion and boundary, each from the state the one before it
left. -/
theorem completionInCyclePairsWithOldSnapshot :
    Obligations.CompletionInCyclePairsWithOldSnapshot := by
  intro c s hrun hrunning hbusy hrst hfault hconv
  have hfreed := afterTxDone_eq_update c s
  have hdone := runEvents_completions hrun hrunning hbusy hconv
  generalize samples c.raw[0] c.raw[1] c.raw[2] c.raw[3] = r at hdone
  have hmode : (conversionStep Config.jic r (afterTxDone c s)).mode = .run := by
    rw [conversionStep_mode, hfreed, hrun]
  have hhalted : (conversionStep Config.jic r (afterTxDone c s)).halted = false := by
    rw [conversionStep_halted, hfreed, hrunning]
  obtain ⟨t, hrest, hframe, hvalid, ⟨os, htrace⟩, hboundary⟩ :=
    runEvents_tickAndEdges c ((tickEnabled_iff _).2 ⟨hmode, hhalted⟩)
  refine ⟨t, ?_, ?_, ?_, fun hidle => ?_, fun htick hcount => hboundary htick ?_⟩
  · rw [cycle, serialise_of_operating hrst hfault, runEvents_append hdone, hrest]
  · rw [hframe, conversionStep_frame, hfreed]
  · rw [hvalid, conversionStep_frameValid]
  · have hstart : (afterTxDone c s).trace = s.trace := by rw [hfreed]
    rw [outputsBetween, htrace, conversionStep_trace_of_idle r _ (afterTxDone_txBusy hidle),
      hstart, List.append_assoc, List.drop_left]
    rfl
  · rw [conversionStep_snapCnt, hfreed]
    exact hcount

end Sys2Proof.Machine
end

section
/-! PROOF. RESET and what it alone does (70_reset_and_hazards.md R137, R139, 10_state.md R31). -/

namespace Sys2Proof.Machine

/-- What R137 writes of button `i`, field by field. -/
theorem resetFields_button (s : State) (i : Fin 8) :
    (resetFields s).edgePending[i] = false ∧ (resetFields s).debRemain[i] = 0#4 ∧
    (resetFields s).stable[i] = false ∧ (resetFields s).btnSnap[i] = false := by
  simp only [resetFields_edgePending, resetFields_debRemain, resetFields_stable,
    resetFields_btnSnap, Fin.getElem_fin, Vector.getElem_replicate, and_self]

theorem resetFields_calSum_get (s : State) (ch : Fin 4) : (resetFields s).calSum[ch] = 0#32 := by
  rw [resetFields_calSum, Fin.getElem_fin, Vector.getElem_replicate]

/-- Settles O45: RESET asks for no condition, and each value is one that `resetFields` writes. -/
theorem resetInitialisesTheState : Obligations.ResetInitialisesTheState := fun s =>
  ⟨resetFields s, rfl, resetFields_mode s, resetFields_halted s, resetFields_button s,
    resetFields_snapCnt s, resetFields_repollCnt s, resetFields_convBusy s,
    resetFields_calCount s, resetFields_calSum_get s, resetFields_frameValid s,
    resetFields_txLen s, resetFields_txBusy s, resetFields_trace s, resetFields_stream s,
    resetFields_pos s⟩

/-- Settles O46: each event but RESET keeps RUN and the offsets, so a sequence of them does. -/
theorem offsetIsWriteOncePerReset : Obligations.OffsetIsWriteOncePerReset := by
  intro is s hrun his
  refine runEvents_preserves (fun t => t.mode = .run ∧ t.zeroOffset = s.zeroOffset) ?_ ⟨hrun, rfl⟩
  rintro e he u t ⟨hurun, huoffset⟩ hexec
  obtain ⟨htrun, htoffset⟩ := exec_of_run_keeps_offsets hurun (his e he) hexec
  exact ⟨htrun, htoffset.trans huoffset⟩

end Sys2Proof.Machine
end

section
/-! PROOF. The run of a stream of event words and its packets (70_reset_and_hazards.md R151,
30_encoding.md R62). -/

namespace Sys2Proof.Machine

/-! ### The packets of an event -/

theorem exec_trace_append {i : Instr} {s t : State} (hexec : exec i s = .next t) :
    ∃ os, t.trace = s.trace ++ os := by
  obtain ⟨os, htrace, -⟩ := exec_balanced hexec
  exact ⟨os, htrace⟩

theorem length_packetsBetween {s t : State} {os : List Output} (h : t.trace = s.trace ++ os) :
    (packetsBetween s t).length = countTxStart os := by
  rw [packetsBetween, outputsBetween, h, List.drop_left]
  clear h
  induction os with
  | nil => rfl
  | cons o os ih =>
    cases o with
    | convStart => exact ih
    | txStart n => exact congrArg (· + 1) ih

/-- Every `TxStart` that an event adds to the trace is one packet. -/
theorem countTxStart_add_length_packetsBetween {i : Instr} {s t : State}
    (hexec : exec i s = .next t) :
    countTxStart s.trace + (packetsBetween s t).length = countTxStart t.trace := by
  obtain ⟨os, htrace⟩ := exec_trace_append hexec
  rw [length_packetsBetween htrace, htrace, countTxStart_append]

theorem packetsBetween_withStream (s t : State) (ws : List Word) (n : Nat) :
    packetsBetween s (t.withStream ws n) = packetsBetween s t := rfl

/-! ### The run -/

theorem length_encode_pos (i : Instr) : 0 < (encode i).length := by
  cases i with
  | convDone r0 r1 r2 r3 => exact Nat.succ_pos 4
  | edge ch => exact Nat.one_pos
  | tick p => exact Nat.one_pos
  | txDone => exact Nat.one_pos
  | platformFault => exact Nat.one_pos
  | reset => exact Nat.one_pos

/-- The result of a run that came to the end of its words, with no refusal and no fault. -/
def RunResult.completed (final : State) (packets : List (List Byte)) : RunResult where
  final := final
  packets := packets
  refusal := none
  fault := none

theorem runFrom_of_stream_nil (fuel : Nat) {s : State} (h : s.stream = []) :
    runFrom fuel s = .completed s [] := by
  cases fuel with
  | zero => rfl
  | succ fuel =>
    rw [runFrom, h]
    rfl

theorem runFrom_succ_of_next {fuel : Nat} {s s' : State} (hstream : s.stream ≠ [])
    (hstep : step s = .next s') {final : State} {packets : List (List Byte)}
    (hrest : runFrom fuel s' = .completed final packets) :
    runFrom (fuel + 1) s = .completed final (packetsBetween s s' ++ packets) := by
  rw [runFrom, if_neg (by simpa using hstream), hstep]
  simp only [hrest]
  rfl

/-- With a step for each word there is a step for each event, so the run takes every event and
adds up the packets of each. -/
theorem runFrom_encodeAll {is : List Instr} {fuel : Nat} {s t : State}
    (hfuel : (encodeAll is).length ≤ fuel) (hstream : s.stream = encodeAll is)
    (hrun : runEvents is s = .next t) :
    ∃ packets, runFrom fuel s =
        .completed (t.withStream [] (s.pos + (encodeAll is).length)) packets ∧
      countTxStart s.trace + packets.length = countTxStart t.trace := by
  induction is generalizing fuel s t with
  | nil =>
    obtain rfl : s = t := by simpa [runEvents_nil] using hrun
    have hnil : s.stream = [] := hstream
    refine ⟨[], ?_, rfl⟩
    rw [runFrom_of_stream_nil fuel hnil, ← hnil]
    rfl
  | cons i is ih =>
    obtain ⟨s', hexec, hrest⟩ := runEvents_cons_next hrun
    have hpos := length_encode_pos i
    have hlength : (encodeAll (i :: is)).length = (encode i).length + (encodeAll is).length :=
      List.length_append
    obtain ⟨fuel, rfl⟩ : ∃ k, fuel = k + 1 := Nat.exists_eq_succ_of_ne_zero (by omega)
    have hne : s.stream ≠ [] := by
      rw [hstream, ← List.length_pos_iff]
      omega
    obtain ⟨packets, hrunFrom, hcount⟩ := ih (fuel := fuel)
      (s := s'.withStream (encodeAll is) (s.pos + (encode i).length)) (by omega) rfl
      (by rw [runEvents_withStream, hrest, withStreamOutcome])
    refine ⟨packetsBetween s s' ++ packets, ?_, ?_⟩
    · rw [runFrom_succ_of_next hne (step_encode_append hstream hexec) hrunFrom,
        packetsBetween_withStream, State.withStream_withStream, hlength, ← Nat.add_assoc]
      rfl
    · rw [List.length_append, ← Nat.add_assoc, countTxStart_add_length_packetsBetween hexec]
      exact hcount

/-- Settles O59: the run from reset starts at position 0 with an empty trace. -/
theorem runOfEventWordsHasNoRefusal : Obligations.RunOfEventWordsHasNoRefusal := by
  intro is
  obtain ⟨t, hrun⟩ := runEvents_exists_next is { State.reset with stream := encodeAll is }
  obtain ⟨packets, hresult, hcount⟩ := runFrom_encodeAll le_rfl rfl hrun
  have hwords : runWords (encodeAll is) =
      .completed (t.withStream [] (0 + (encodeAll is).length)) packets := hresult
  rw [hwords, Nat.zero_add]
  exact ⟨t, hrun, rfl, rfl, rfl, (Nat.zero_add _).symm.trans hcount⟩

end Sys2Proof.Machine
end
